-- ==== Sys2Proof/Config.lean ====
section
/-! DEFINITION. Config.lean: the sizes the manual fixes for the RBH-48 and the three values of its ID register.
The manual leaves no value to an implementation, so there is no free value here (notes/assumptions/1.md). -/

namespace Sys2Proof.Config

/-- R1: line entries of the hold store. -/
abbrev numEntries : Nat := 48
/-- R191: initiators 0 to 5, one inbound queue each. -/
abbrev numInitiators : Nat := 6
/-- R88: group records. -/
abbrev numGroups : Nat := 4
/-- R26: region table entries. -/
abbrev numRegions : Nat := 12
/-- R113: downstream tag slots. -/
abbrev numTags : Nat := 8
/-- R160: fault record slots. -/
abbrev numFaults : Nat := 6
/-- Conventions of 00_scope.md: bytes in a line. -/
abbrev lineBytes : Nat := 64

/-- R191: requests an inbound queue holds, and credits an initiator holds after a pin reset. -/
abbrev queueDepth : Nat := 4
/-- R68: entries the pending read list holds. -/
abbrev maxReads : Nat := 12
/-- R107: records the drain list holds. -/
abbrev maxDrains : Nat := 4
/-- R10: pairs a durable waiters list holds. -/
abbrev maxWaiters : Nat := 3
/-- R148: WAKE_REQUESTs of one wake. -/
abbrev maxWakeAttempts : Nat := 3

/-- R190: the vendor code of the ID register. -/
abbrev vendorCode : Nat := 0x1B7
/-- R190: the part code of the ID register. -/
abbrev partCode : Nat := 0x030
/-- R190: the silicon revision of the part the manual describes. -/
abbrev revision : Nat := 1

end Sys2Proof.Config
end

