-- ==== Sys2Proof/Word.lean ====
section
/-! DEFINITION. Word.lean: the widths of the RBH-48 (00_scope.md, Conventions; 10_link_and_frame_formats.md) and the
index types of its tables. -/

namespace Sys2Proof

/-- A byte of a line or of a management frame. -/
abbrev Byte := BitVec 8
/-- A 40-bit byte address. -/
abbrev Addr := BitVec 40
/-- A line address: a byte address with its low 6 bits dropped. -/
abbrev LineAddr := BitVec 34
/-- A set of byte positions of a line: position n has the value 2^n. -/
abbrev Mask := BitVec 64
/-- A sequence number (R12). -/
abbrev Seq := BitVec 48
/-- A timestamp: a count of ticks that wraps (R87). -/
abbrev Timestamp := BitVec 32
/-- An upstream tag, chosen by an initiator. -/
abbrev UpTag := BitVec 4
/-- The 64 bytes of a line, position 0 first. -/
abbrev Line := Vector Byte Config.lineBytes

/-- A hold store entry index. -/
abbrev EntryIx := Fin Config.numEntries
/-- An initiator that has an inbound queue. -/
abbrev InitIx := Fin Config.numInitiators
/-- A group number. -/
abbrev GroupIx := Fin Config.numGroups
/-- A region table index. -/
abbrev RegionIx := Fin Config.numRegions
/-- A downstream tag, which is a slot number of the tag table. -/
abbrev TagIx := Fin Config.numTags
/-- A fault list slot. -/
abbrev FaultIx := Fin Config.numFaults

/-- The line whose bytes are all zero. -/
def Line.zero : Line := Vector.replicate Config.lineBytes 0

end Sys2Proof
end

