-- ==== Sys2Proof/Syntax.lean ====
section
/-! DEFINITION. Syntax.lean: the commands of the RBH-48, one constructor per row of spec/opcode_table.json.
A command is one whole step of the part (95_what_each_step_holds.md): a message or event from outside, a timer running
out, the arbiter's grant, a decision at a queue head, or a management command at its effect point. The operands are
what the message carries or which object the event names. -/

namespace Sys2Proof

/-- An upstream request as the link carries it (10.1): every field at its width on the link, so that an ill-formed
request (an undefined kind, initiator 6 or 7, a length above 64) can arrive too. -/
structure Request where
  /-- 0 READ, 1 WRITE, 2 DRAIN, 3 undefined. -/
  kind : BitVec 2
  /-- 0 to 7; 6 and 7 name no initiator. -/
  initiator : BitVec 3
  tag : UpTag
  /-- DURABLE at value 1, URGENT at value 2. -/
  attributes : BitVec 2
  /-- The groups a DRAIN names, group n at the value 2^n. -/
  groups : BitVec 4
  length : BitVec 7
  address : Addr
  /-- 0 to 127 bytes, in address order. -/
  data : List Byte
  deriving DecidableEq, Repr

/-- The twenty management commands (10.4). -/
inductive CommandName where
  | readReg | writeReg | take | ack | regionRead | regionWrite | groupOpen | groupClose | groupReset | release
  | wake | cycle | recover | faultRead | faultRetry | faultDiscard | entryPeek | status | clearCounters | clear
  deriving DecidableEq, Repr

/-- The registers of the register window (9.6). -/
inductive Register where
  | id | tickDiv | fullPolicy | deferLimit | deferCount | rdRetry | wrRetry | creditLimit | respLimit
  | highMark | lowMark | oppMark | sleepDelay | wakeLimit | windowPeriod
  | ageLimit (g : GroupIx) | relMode (g : GroupIx) | relValue (g : GroupIx) | lineLimit (g : GroupIx)
  | companions (g : GroupIx)
  | attnEnable | attnStatus
  | wakes | sleeps | fullHits | throughWrites | retries | discardedLines
  | resetRecord
  deriving DecidableEq, Repr

/-- The commands: one constructor per row of spec/opcode_table.json, in the table's order. -/
inductive Instr where
  /-- R191: a request arrives on the upstream link. -/
  | upstreamRequest (r : Request)
  /-- R41: the WRITE at the head of initiator i's queue is decided. -/
  | writeDecision (i : InitIx)
  /-- R64: the READ at the head of initiator i's queue is decided. -/
  | readDecision (i : InitIx)
  /-- R106: the DRAIN at the head of initiator i's queue is decided. -/
  | drainDecision (i : InitIx)
  /-- R72: the oldest DEFERRED read's wait reaches DEFER_LIMIT. -/
  | deferLimitReached
  /-- R115: the downstream arbiter makes one grant. -/
  | grant
  /-- R125: COMPLETE_OK for a tag, with the bytes it carries. -/
  | completeOk (tag : TagIx) (data : List Byte)
  /-- R125: COMPLETE_POISON for a tag, with the bytes it carries (none in a well-formed message). -/
  | completePoison (tag : TagIx) (data : List Byte)
  /-- R125: COMPLETE_FAIL for a tag, with the bytes it carries (none in a well-formed message). -/
  | completeFail (tag : TagIx) (data : List Byte)
  /-- R195: a downstream message of an undefined kind (3 or 7). -/
  | undefinedDownstreamMessage (kind : BitVec 3)
  /-- R128: a BUSY slot reaches RESP_LIMIT. -/
  | slotTimeout (tag : TagIx)
  /-- R141: the sleep countdown runs out. -/
  | sleepCountdownExpiry
  /-- R142, R144. -/
  | sleepAccept
  /-- R143, R144. -/
  | sleepDecline
  /-- R147, R144. -/
  | wakeReady
  /-- R148: the wake timer runs out. -/
  | wakeTimerExpiry
  /-- R153: the window countdown runs out. -/
  | windowBoundary
  /-- R95: group g's age timer expires. -/
  | ageTimerExpiry (g : GroupIx)
  /-- R96: group g's quiet timer expires. -/
  | quietTimerExpiry (g : GroupIx)
  /-- R86: one tick of the time base. -/
  | tick
  /-- R155: the sampled OPP level changes to level (true is asserted). -/
  | oppChange (level : Bool)
  /-- R24: PORn is asserted. -/
  | powerOnReset
  /-- R24: RSTn is asserted. -/
  | warmReset
  /-- R158: the pin reset ends. -/
  | resetEnd
  /-- R176: chip select goes high. -/
  | frameEnd
  /-- R177: the link takes a command byte that names no command. -/
  | unknownCommand (byte : Byte)
  /-- R187. -/
  | readReg (number : Byte)
  /-- R188: a write of a register by its number. -/
  | writeReg (number : Byte) (value : BitVec 32)
  /-- R86: a write of register 1. -/
  | tickDiv (value : BitVec 32)
  /-- R48: a write of register 2. -/
  | fullPolicy (value : BitVec 32)
  /-- R70: a write of register 3. -/
  | deferLimit (value : BitVec 32)
  /-- R70: a write of register 4. -/
  | deferCount (value : BitVec 32)
  /-- R114: a write of register 7. -/
  | creditLimit (value : BitVec 32)
  /-- R128: a write of register 8. -/
  | respLimit (value : BitVec 32)
  /-- R119: a write of register 9. -/
  | highMark (value : BitVec 32)
  /-- R119: a write of register 10. -/
  | lowMark (value : BitVec 32)
  /-- R119: a write of register 11. -/
  | oppMark (value : BitVec 32)
  /-- R139: a write of register 12. -/
  | sleepDelay (value : BitVec 32)
  /-- R152: a write of register 14. -/
  | windowPeriod (value : BitVec 32)
  /-- R167: a write of register 48. -/
  | attnEnable (value : BitVec 32)
  /-- R89: a write of register 16 + 8g. -/
  | ageLimit (g : GroupIx) (value : BitVec 32)
  /-- R89: a write of register 17 + 8g. -/
  | relMode (g : GroupIx) (value : BitVec 32)
  /-- R89: a write of register 18 + 8g. -/
  | relValue (g : GroupIx) (value : BitVec 32)
  /-- R89: a write of register 19 + 8g. -/
  | lineLimit (g : GroupIx) (value : BitVec 32)
  /-- R89: a write of register 20 + 8g. -/
  | companions (g : GroupIx) (value : BitVec 32)
  /-- R169. -/
  | take
  /-- R168: ACK with its set of causes. -/
  | ack (causes : BitVec 16)
  /-- R40. -/
  | regionRead (index : Byte)
  /-- R37, R38: REGION_WRITE with its index and the eight bytes of the entry, the first byte in the highest bits. -/
  | regionWrite (index : Byte) (entry : BitVec 64)
  /-- R90. -/
  | groupOpen (group : Byte)
  /-- R91. -/
  | groupClose (group : Byte)
  /-- R93. -/
  | groupReset (group : Byte)
  /-- R99: RELEASE with its set of groups. -/
  | release (groups : Byte)
  /-- R156. -/
  | wake
  /-- R157. -/
  | cycle
  /-- R151. -/
  | recover
  /-- R164. -/
  | faultRead (slot : Byte)
  /-- R22, R163. -/
  | faultRetry (entry : Byte)
  /-- R23, R163. -/
  | faultDiscard (entry : Byte)
  /-- R181. -/
  | entryPeek (entry : Byte)
  /-- R180. -/
  | status
  /-- R172. -/
  | clearCounters
  /-- R184, R185. -/
  | clear
  /-- R175: chip select goes low. -/
  | frameStart
  deriving DecidableEq, Repr

end Sys2Proof
end

