-- ==== Sys2Proof/Decode.lean ====
section
/-! DEFINITION. Decode.lean: the bytes of management frames (10.4, R197), read into commands and written from them, and
decodeTableWord. No row of spec/opcode_table.json has bits of its own, so decodeTableWord reads no word. The frame
bytes are the one encoding the spec gives commands; R175 keeps them in the frame record. -/

namespace Sys2Proof

/-- No row of the table gives bits: no word spells a command. -/
def decodeTableWord (_nbits _w : Nat) : Option Instr := none

/-- R197: a number as n bytes, most significant byte first. -/
def bytesBE : Nat → Nat → List Byte
  | 0, _ => []
  | n + 1, v => bytesBE n (v / 256) ++ [BitVec.ofNat 8 v]

/-- R197: the number that bytes carry, most significant byte first. -/
def natBE (bs : List Byte) : Nat :=
  bs.foldl (fun v b => v * 256 + b.toNat) 0

/-- 10.4: the command byte. -/
def commandByte : CommandName → Byte
  | .readReg => 0x01
  | .writeReg => 0x02
  | .take => 0x03
  | .ack => 0x04
  | .regionRead => 0x05
  | .regionWrite => 0x06
  | .groupOpen => 0x08
  | .groupClose => 0x09
  | .groupReset => 0x0A
  | .release => 0x0B
  | .wake => 0x0C
  | .cycle => 0x0D
  | .recover => 0x0E
  | .faultRead => 0x10
  | .faultRetry => 0x11
  | .faultDiscard => 0x12
  | .entryPeek => 0x13
  | .status => 0x14
  | .clearCounters => 0x15
  | .clear => 0x16

/-- The commands of 10.4, in the table's order. -/
def allCommands : List CommandName :=
  [.readReg, .writeReg, .take, .ack, .regionRead, .regionWrite, .groupOpen, .groupClose, .groupReset, .release,
    .wake, .cycle, .recover, .faultRead, .faultRetry, .faultDiscard, .entryPeek, .status, .clearCounters, .clear]

/-- 10.4: the command a byte names, if it names one (R177). -/
def commandOfByte (b : Byte) : Option CommandName :=
  allCommands.find? fun c => commandByte c == b

/-- 10.4: the number of argument bytes. -/
def argBytes : CommandName → Nat
  | .writeReg => 5
  | .ack => 2
  | .regionWrite => 9
  | .readReg | .regionRead | .groupOpen | .groupClose | .groupReset | .release | .faultRead | .faultRetry
  | .faultDiscard | .entryPeek => 1
  | .take | .wake | .cycle | .recover | .status | .clearCounters | .clear => 0

/-- 10.4: the number of data bytes of the response. -/
def dataBytes : CommandName → Nat
  | .readReg => 4
  | .take => 2
  | .regionRead => 8
  | .faultRead => 86
  | .entryPeek => 98
  | .status => 75
  | .writeReg | .ack | .regionWrite | .groupOpen | .groupClose | .groupReset | .release | .wake | .cycle | .recover
  | .faultRetry | .faultDiscard | .clearCounters | .clear => 0

/-- 9.6: the number of a register of the register window. -/
def registerNumber : Register → Nat
  | .id => 0
  | .tickDiv => 1
  | .fullPolicy => 2
  | .deferLimit => 3
  | .deferCount => 4
  | .rdRetry => 5
  | .wrRetry => 6
  | .creditLimit => 7
  | .respLimit => 8
  | .highMark => 9
  | .lowMark => 10
  | .oppMark => 11
  | .sleepDelay => 12
  | .wakeLimit => 13
  | .windowPeriod => 14
  | .ageLimit g => 16 + 8 * g.val
  | .relMode g => 17 + 8 * g.val
  | .relValue g => 18 + 8 * g.val
  | .lineLimit g => 19 + 8 * g.val
  | .companions g => 20 + 8 * g.val
  | .attnEnable => 48
  | .attnStatus => 49
  | .wakes => 56
  | .sleeps => 57
  | .fullHits => 58
  | .throughWrites => 59
  | .retries => 60
  | .discardedLines => 61
  | .resetRecord => 62

/-- The five registers of a group. -/
def groupRegisters (g : GroupIx) : List Register :=
  [.ageLimit g, .relMode g, .relValue g, .lineLimit g, .companions g]

/-- Every register of the table of 9.6. -/
def allRegisters : List Register :=
  [.id, .tickDiv, .fullPolicy, .deferLimit, .deferCount, .rdRetry, .wrRetry, .creditLimit, .respLimit, .highMark,
    .lowMark, .oppMark, .sleepDelay, .wakeLimit, .windowPeriod] ++
  groupRegisters 0 ++ groupRegisters 1 ++ groupRegisters 2 ++ groupRegisters 3 ++
  [.attnEnable, .attnStatus, .wakes, .sleeps, .fullHits, .throughWrites, .retries, .discardedLines, .resetRecord]

/-- The register a number names, if it names one (R187, R188). -/
def registerOfNumber (n : Byte) : Option Register :=
  allRegisters.find? fun r => registerNumber r == n.toNat

/-- The row of the table that a write of register number n with value v is: the register's own row where it has
behaviour of its own, WRITE_REG otherwise. -/
def writeCommand (n : Byte) (v : BitVec 32) : Instr :=
  match registerOfNumber n with
  | some .tickDiv => .tickDiv v
  | some .fullPolicy => .fullPolicy v
  | some .deferLimit => .deferLimit v
  | some .deferCount => .deferCount v
  | some .creditLimit => .creditLimit v
  | some .respLimit => .respLimit v
  | some .highMark => .highMark v
  | some .lowMark => .lowMark v
  | some .oppMark => .oppMark v
  | some .sleepDelay => .sleepDelay v
  | some .windowPeriod => .windowPeriod v
  | some .attnEnable => .attnEnable v
  | some (.ageLimit g) => .ageLimit g v
  | some (.relMode g) => .relMode g v
  | some (.relValue g) => .relValue g v
  | some (.lineLimit g) => .lineLimit g v
  | some (.companions g) => .companions g v
  | some _ | none => .writeReg n v

/-- The argument bytes of a write of a register (10.4). -/
def writeArgs (n : Byte) (v : BitVec 32) : List Byte :=
  n :: bytesBE 4 v.toNat

/-- The argument bytes of a write of register r. -/
def registerWriteArgs (r : Register) (v : BitVec 32) : List Byte :=
  writeArgs (BitVec.ofNat 8 (registerNumber r)) v

/-- R175, 10.4: the command byte and the argument bytes of a management command; none for a row that is no command of
the management link. -/
def frameOf : Instr → Option (Byte × List Byte)
  | .unknownCommand b => some (b, [])
  | .readReg n => some (commandByte .readReg, [n])
  | .writeReg n v => some (commandByte .writeReg, writeArgs n v)
  | .tickDiv v => some (commandByte .writeReg, registerWriteArgs .tickDiv v)
  | .fullPolicy v => some (commandByte .writeReg, registerWriteArgs .fullPolicy v)
  | .deferLimit v => some (commandByte .writeReg, registerWriteArgs .deferLimit v)
  | .deferCount v => some (commandByte .writeReg, registerWriteArgs .deferCount v)
  | .creditLimit v => some (commandByte .writeReg, registerWriteArgs .creditLimit v)
  | .respLimit v => some (commandByte .writeReg, registerWriteArgs .respLimit v)
  | .highMark v => some (commandByte .writeReg, registerWriteArgs .highMark v)
  | .lowMark v => some (commandByte .writeReg, registerWriteArgs .lowMark v)
  | .oppMark v => some (commandByte .writeReg, registerWriteArgs .oppMark v)
  | .sleepDelay v => some (commandByte .writeReg, registerWriteArgs .sleepDelay v)
  | .windowPeriod v => some (commandByte .writeReg, registerWriteArgs .windowPeriod v)
  | .attnEnable v => some (commandByte .writeReg, registerWriteArgs .attnEnable v)
  | .ageLimit g v => some (commandByte .writeReg, registerWriteArgs (.ageLimit g) v)
  | .relMode g v => some (commandByte .writeReg, registerWriteArgs (.relMode g) v)
  | .relValue g v => some (commandByte .writeReg, registerWriteArgs (.relValue g) v)
  | .lineLimit g v => some (commandByte .writeReg, registerWriteArgs (.lineLimit g) v)
  | .companions g v => some (commandByte .writeReg, registerWriteArgs (.companions g) v)
  | .take => some (commandByte .take, [])
  | .ack c => some (commandByte .ack, bytesBE 2 c.toNat)
  | .regionRead i => some (commandByte .regionRead, [i])
  | .regionWrite i e => some (commandByte .regionWrite, i :: bytesBE 8 e.toNat)
  | .groupOpen g => some (commandByte .groupOpen, [g])
  | .groupClose g => some (commandByte .groupClose, [g])
  | .groupReset g => some (commandByte .groupReset, [g])
  | .release gs => some (commandByte .release, [gs])
  | .wake => some (commandByte .wake, [])
  | .cycle => some (commandByte .cycle, [])
  | .recover => some (commandByte .recover, [])
  | .faultRead k => some (commandByte .faultRead, [k])
  | .faultRetry e => some (commandByte .faultRetry, [e])
  | .faultDiscard e => some (commandByte .faultDiscard, [e])
  | .entryPeek e => some (commandByte .entryPeek, [e])
  | .status => some (commandByte .status, [])
  | .clearCounters => some (commandByte .clearCounters, [])
  | .clear => some (commandByte .clear, [])
  | .upstreamRequest _ | .writeDecision _ | .readDecision _ | .drainDecision _ | .deferLimitReached | .grant
  | .completeOk _ _ | .completePoison _ _ | .completeFail _ _ | .undefinedDownstreamMessage _ | .slotTimeout _
  | .sleepCountdownExpiry | .sleepAccept | .sleepDecline | .wakeReady | .wakeTimerExpiry | .windowBoundary
  | .ageTimerExpiry _ | .quietTimerExpiry _ | .tick | .oppChange _ | .powerOnReset | .warmReset | .resetEnd
  | .frameEnd | .frameStart => none

/-- R175, R177, R197: the command that a frame's command byte and argument bytes spell; none while argument bytes are
missing or where there are too many. -/
def decodeFrame (b : Byte) (args : List Byte) : Option Instr :=
  match commandOfByte b, args with
  | none, [] => some (.unknownCommand b)
  | some .readReg, [n] => some (.readReg n)
  | some .writeReg, [n, v3, v2, v1, v0] => some (writeCommand n (BitVec.ofNat 32 (natBE [v3, v2, v1, v0])))
  | some .take, [] => some .take
  | some .ack, [c1, c0] => some (.ack (BitVec.ofNat 16 (natBE [c1, c0])))
  | some .regionRead, [i] => some (.regionRead i)
  | some .regionWrite, [i, e7, e6, e5, e4, e3, e2, e1, e0] =>
    some (.regionWrite i (BitVec.ofNat 64 (natBE [e7, e6, e5, e4, e3, e2, e1, e0])))
  | some .groupOpen, [g] => some (.groupOpen g)
  | some .groupClose, [g] => some (.groupClose g)
  | some .groupReset, [g] => some (.groupReset g)
  | some .release, [gs] => some (.release gs)
  | some .wake, [] => some .wake
  | some .cycle, [] => some .cycle
  | some .recover, [] => some .recover
  | some .faultRead, [k] => some (.faultRead k)
  | some .faultRetry, [e] => some (.faultRetry e)
  | some .faultDiscard, [e] => some (.faultDiscard e)
  | some .entryPeek, [e] => some (.entryPeek e)
  | some .status, [] => some .status
  | some .clearCounters, [] => some .clearCounters
  | some .clear, [] => some .clear
  | _, _ => none

end Sys2Proof
end

