-- ==== Sys2Proof/Machine/State.lean ====
section
/-! DEFINITION. Machine/State.lean: the state of the RBH-48, as plain data, and its value right after a power-on reset.
Each block's record follows the table of the rule it cites. The level causes of attention, the release halt, the
TAGS_STUCK condition, the idle condition, the due entries and the ATTNn pin are functions of this state
(Machine/Flags.lean, Machine/Ops.lean): the spec gives them no storage of their own. -/

namespace Sys2Proof.Machine

/-- No command stops the part: the spec gives every command an effect, and an event that is not due does not happen
(notes/assumptions/2.md). This type has therefore no constructor and no fault can be answered (safe). -/
inductive Fault where
  deriving DecidableEq, Repr

/-- Why the model has no answer to a command. -/
inductive Refusal where
  /-- Raised by Machine/Dispatch.lean alone, for a command without a meaning. Every command has one, so nothing raises
  it now (safe: the model would stop where the part goes on). -/
  | notModelled (mnemonic : String)
  deriving DecidableEq, Repr

/-! ## The hold store (chapter 1) -/

/-- R3. -/
inductive EntryState where
  | free | held | releasing | faulted
  deriving DecidableEq, Repr

/-- R126, R160: why the last attempt of a release failed. -/
inductive FailCause where
  | fail | poison | timeout
  deriving DecidableEq, Repr

/-- R10: an (initiator, tag) pair to be answered. -/
structure Waiter where
  initiator : InitIx
  tag : UpTag
  deriving DecidableEq, Repr

/-- R1: the record of a line entry. -/
structure Entry where
  state : EntryState
  line : LineAddr
  group : GroupIx
  mask : Mask
  data : Line
  seq : Seq
  allocTime : Timestamp
  /-- R9: stops at 65535. -/
  merges : BitVec 16
  expedite : Bool
  /-- R10: oldest first. -/
  waiters : List Waiter
  attempts : Nat
  lastCause : Option FailCause
  faultSlot : Option FaultIx
  deriving DecidableEq, Repr

/-- R2: the cleared record over the data bytes the entry has. -/
def Entry.cleared (data : Line) : Entry where
  state := .free
  line := 0
  group := 0
  mask := 0
  data := data
  seq := 0
  allocTime := 0
  merges := 0
  expedite := false
  waiters := []
  attempts := 0
  lastCause := none
  faultSlot := none

/-- R14: the occupancy counts. -/
structure Counts where
  held : Nat
  releasing : Nat
  faulted : Nat
  /-- The HELD count of each group. -/
  groupHeld : Vector Nat Config.numGroups
  deriving DecidableEq, Repr

/-- R14: all counts are 0 after each reset. -/
def Counts.zero : Counts where
  held := 0
  releasing := 0
  faulted := 0
  groupHeld := Vector.replicate Config.numGroups 0

/-! ## The region table (chapter 2) -/

/-- R26: the policy of a region. The group and the durable default are present exactly when the policy is HOLD. -/
inductive Policy where
  | hold (group : GroupIx) (durable : Bool)
  | pass
  | block
  deriving DecidableEq, Repr

/-- R26, R31. -/
inductive ReadClass where
  | urgent | deferrable
  deriving DecidableEq, Repr

/-- R26: a region table entry. -/
structure Region where
  valid : Bool
  base : Addr
  /-- The size is 2^sizeLog bytes, 12 to 40. -/
  sizeLog : Nat
  policy : Policy
  readClass : ReadClass
  deriving DecidableEq, Repr

/-- R27: a region table entry after a power-on reset. -/
def Region.powerOn : Region where
  valid := false
  base := 0
  sizeLog := 12
  policy := .pass
  readClass := .urgent

/-! ## The inbound queues (chapters 3, 4 and 10) -/

/-- R60, R65, R106: what the request at a queue head waits on before it is decided again. -/
inductive WaitCause where
  /-- R42: a pending read of the line. The flag is set when the line's entry was RELEASING too (R60). -/
  | pendingRead (onRelease : Bool)
  /-- R43: an outstanding pass-through write of the line. -/
  | passThrough
  /-- R45: the line's entry is RELEASING. -/
  | releasing
  /-- R52: the entry's durable waiters list holds 3 pairs. -/
  | waitersFull
  /-- R49: a failed allocation under STALL. -/
  | stall
  /-- R65: the pending read list holds 12 entries. -/
  | readListFull
  /-- R106: the drain list holds 4 records. -/
  | drainListFull
  deriving DecidableEq, Repr

/-- Where the request at a queue head stands. -/
inductive HeadStatus where
  /-- To be decided, for the first time or again. -/
  | undecided
  /-- Decided to wait; the wait is in force. -/
  | waiting (cause : WaitCause)
  /-- R54: a pass-through write that waits for the memory and a tag. -/
  | passThrough
  deriving DecidableEq, Repr

/-- R191, R192: the inbound queue of one initiator, its outstanding tag set and the credits the initiator holds. -/
structure Initiator where
  /-- The head first. -/
  queue : List Request
  head : HeadStatus
  /-- Tag n at the value 2^n. -/
  tags : BitVec 16
  credits : Nat
  deriving DecidableEq, Repr

/-- R191, R196: an initiator's queue, tag set and credits after a pin reset. -/
def Initiator.empty : Initiator where
  queue := []
  head := .undecided
  tags := 0
  credits := Config.queueDepth

/-! ## The read path (chapter 4) -/

/-- R69. -/
inductive ReadState where
  | deferred | waitRelease | ready | issued | retryWait
  deriving DecidableEq, Repr

/-- R68: an entry of the pending read list. -/
structure PendingRead where
  initiator : InitIx
  tag : UpTag
  address : Addr
  length : BitVec 7
  readClass : ReadClass
  arrival : Timestamp
  state : ReadState
  attempts : Nat
  /-- Present while ISSUED. -/
  slot : Option TagIx
  deriving DecidableEq, Repr

/-! ## The group unit (chapter 5) -/

/-- R88. -/
inductive GroupState where
  | idle | holding | closing | closed
  deriving DecidableEq, Repr

/-- R88: which relative trigger a group uses. -/
inductive RelMode where
  | quiet | count
  deriving DecidableEq, Repr

/-- R88, R91: a group's episode: absent, opened with no mark, or present with a mark. -/
inductive Episode where
  | absent
  | noMark
  | mark (m : Seq)
  deriving DecidableEq, Repr

/-- R88: a group record. -/
structure Group where
  state : GroupState
  /-- In units of 10 µs. -/
  ageLimit : BitVec 16
  relMode : RelMode
  relValue : BitVec 16
  lineLimit : BitVec 8
  /-- Group n at the value 2^n. -/
  companions : BitVec 4
  /-- The start time while running. -/
  ageTimer : Option Timestamp
  /-- The restart time while running. -/
  quietTimer : Option Timestamp
  writeCount : BitVec 16
  episode : Episode
  pendingRelease : Bool
  deriving DecidableEq, Repr

/-- R88: a group record after a power-on reset. -/
def Group.powerOn : Group where
  state := .idle
  ageLimit := 0
  relMode := .quiet
  relValue := 0
  lineLimit := 0
  companions := 0
  ageTimer := none
  quietTimer := none
  writeCount := 0
  episode := .absent
  pendingRelease := false

/-- R107: a drain record. -/
structure Drain where
  initiator : InitIx
  tag : UpTag
  groups : BitVec 4
  mark : Seq
  arrival : Timestamp
  deriving DecidableEq, Repr

/-! ## The release engine and downstream port (chapter 6) -/

/-- R55, R113: a pass-through write, kept apart from its inbound queue. -/
structure PassWrite where
  initiator : InitIx
  tag : UpTag
  address : Addr
  mask : Mask
  /-- The write's bytes at their positions, zero elsewhere. -/
  bytes : Line
  deriving DecidableEq, Repr

/-- R127: a member of the pass-through retry list, with its number of failed attempts. -/
structure PassRetry where
  write : PassWrite
  failed : Nat
  deriving DecidableEq, Repr

/-- R113: what a downstream request is. -/
inductive SlotKind where
  | read | pass | release
  deriving DecidableEq, Repr

/-- R113: the operation a BUSY slot names. -/
inductive SlotOp where
  | read (initiator : InitIx) (tag : UpTag)
  | pass (write : PassWrite)
  | release (entry : EntryIx)
  deriving DecidableEq, Repr

/-- R113: a slot of the tag table. A FREE slot's record is cleared, a QUARANTINED one names no operation. -/
inductive Slot where
  | free
  | busy (op : SlotOp) (issued : Timestamp) (attempt : Nat)
  | quarantined (kind : SlotKind) (issued : Timestamp) (attempt : Nat)
  deriving DecidableEq, Repr

/-! ## The memory power controller (chapter 7) -/

/-- R137. -/
inductive PowerState where
  | awake | entering | asleep | waking | unavailable
  deriving DecidableEq, Repr

/-- R136: the record of the memory power controller. A countdown is none while stopped; some 0 has run out and its
expiry is due. -/
structure Power where
  state : PowerState
  attempt : Nat
  sleepCountdown : Option Nat
  wakeTimer : Option Nat
  notedWake : Bool
  cycleOwed : Bool
  /-- In units of 100 µs. -/
  staged : BitVec 16
  /-- In units of 100 µs. -/
  current : BitVec 16
  windowCountdown : Option Nat
  deriving DecidableEq, Repr

/-! ## Faults, counters and the reset record (chapter 8) -/

/-- R160: a fault record. Its slot is its place in the fault list's table. -/
structure FaultRecord where
  entry : EntryIx
  line : LineAddr
  group : GroupIx
  mask : Mask
  cause : FailCause
  attemptsMade : Nat
  time : Timestamp
  deriving DecidableEq, Repr

/-- R171: the six counters. -/
structure Counters where
  wakes : BitVec 32
  sleeps : BitVec 32
  fullHits : BitVec 32
  throughWrites : BitVec 32
  retries : BitVec 32
  discardedLines : BitVec 32
  deriving DecidableEq, Repr

/-- R172. -/
def Counters.zero : Counters where
  wakes := 0
  sleeps := 0
  fullHits := 0
  throughWrites := 0
  retries := 0
  discardedLines := 0

/-- R173. -/
inductive ResetCause where
  | powerOn | pin | clear
  deriving DecidableEq, Repr

/-- R173. -/
structure ResetRecord where
  cause : ResetCause
  lostLines : Nat
  deriving DecidableEq, Repr

/-! ## The links and the register window (chapters 9 and 10) -/

/-- 10.1: upstream error causes. -/
inductive ErrorCause where
  | malformed | blocked | faultedLine | memory | unavailable | drainFault
  deriving DecidableEq, Repr

/-- 10.1: upstream responses. -/
inductive Response where
  | data (bytes : List Byte)
  | done
  | error (cause : ErrorCause)
  deriving DecidableEq, Repr

/-- What the bridge sends on the upstream link: a response, or a credit return (10.1). -/
inductive UpMessage where
  | response (initiator : BitVec 3) (tag : UpTag) (r : Response)
  | credit (initiator : InitIx)
  deriving DecidableEq, Repr

/-- 10.2: what the bridge sends on the downstream link. -/
inductive DownMessage where
  | lineRead (tag : TagIx) (line : LineAddr)
  | lineWrite (tag : TagIx) (line : LineAddr) (mask : Mask) (data : Line)
  | sleepRequest
  | wakeRequest
  deriving DecidableEq, Repr

/-- R175: the phases of a management frame. -/
inductive Phase where
  | command | argument | turnaround | response | trailing
  deriving DecidableEq, Repr

/-- R175: the frame record. -/
structure Frame where
  phase : Phase
  command : Option Byte
  args : List Byte
  /-- The captured status byte and data bytes, first byte first. -/
  response : List Byte
  /-- The bytes driven on data out so far in the frame, oldest first. The model's own (notes/assumptions/9.md). -/
  sent : List Byte
  deriving DecidableEq, Repr

/-- R175: the record of a frame that has just begun. -/
def Frame.started : Frame where
  phase := .command
  command := none
  args := []
  response := []
  sent := []

/-- R48. -/
inductive FullPolicy where
  | stall | through
  deriving DecidableEq, Repr

/-- 9.6: the configuration values of the register window that no other record holds. -/
structure Regs where
  tickDiv : BitVec 8
  fullPolicy : FullPolicy
  deferLimit : BitVec 16
  deferCount : BitVec 8
  rdRetry : BitVec 8
  wrRetry : BitVec 8
  creditLimit : BitVec 8
  respLimit : BitVec 16
  highMark : BitVec 8
  lowMark : BitVec 8
  oppMark : BitVec 8
  sleepDelay : BitVec 16
  wakeLimit : BitVec 16
  attnEnable : BitVec 16
  deriving DecidableEq, Repr

/-- 9.6: the power-on values. -/
def Regs.powerOn : Regs where
  tickDiv := 100
  fullPolicy := .stall
  deferLimit := 2000
  deferCount := 8
  rdRetry := 1
  wrRetry := 2
  creditLimit := 4
  respLimit := 250
  highMark := 40
  lowMark := 16
  oppMark := 24
  sleepDelay := 0
  wakeLimit := 120
  attnEnable := 0

/-- Which reset input is asserted (R173: a reset in which PORn is asserted is a power-on reset). -/
inductive ResetPin where
  | released | warm | powerOn
  deriving DecidableEq, Repr

/-! ## The state -/

/-- The state of the part, and the queue of the commands that wait. -/
structure State where
  /-- The commands that wait, first in first out. The model's own (notes/assumptions/3.md). -/
  pending : List Instr
  /-- The reset inputs PORn and RSTn. -/
  resetPin : ResetPin
  initiators : Vector Initiator Config.numInitiators
  /-- What the bridge has sent upstream since the last pin reset, oldest first (notes/assumptions/4.md). -/
  upstreamOut : List UpMessage
  regions : Vector Region Config.numRegions
  entries : Vector Entry Config.numEntries
  /-- R13: the HELD entries, oldest first. -/
  ageList : List EntryIx
  /-- R12. -/
  seqCounter : Seq
  counts : Counts
  /-- R68: in the order in which they entered. -/
  reads : List PendingRead
  groups : Vector Group Config.numGroups
  /-- R107: in the order in which they entered. -/
  drains : List Drain
  /-- R87. -/
  timestamp : Timestamp
  /-- R86: the divider of the tick in progress. -/
  divider : BitVec 8
  slots : Vector Slot Config.numTags
  /-- R127: oldest failure first. -/
  passRetries : List PassRetry
  /-- R127: oldest failure first. -/
  releaseRetries : List EntryIx
  /-- R120: pressure is active. -/
  pressure : Bool
  /-- R128: RESP_LIMIT at the last tick, so that a lowered limit times a slot out at the next tick. The model's own
  (notes/assumptions/5.md). -/
  respLimitSeen : BitVec 16
  /-- What the bridge has sent downstream since the last pin reset, oldest first (notes/assumptions/4.md). -/
  downstreamOut : List DownMessage
  power : Power
  /-- R155: the sampled level of OPP, true while asserted. -/
  opp : Bool
  /-- R160: the fault records by slot. -/
  faults : Vector (Option FaultRecord) Config.numFaults
  /-- R160: the slots of the records in addition order, oldest first. -/
  faultOrder : List FaultIx
  /-- R165: the stored event causes, at the values of 10.5. -/
  events : BitVec 16
  counters : Counters
  resetRecord : ResetRecord
  regs : Regs
  /-- The chip select pin is low. -/
  chipSelectLow : Bool
  /-- The bytes that the host clocks next on data in, first byte first. The model's own (notes/assumptions/9.md). -/
  serialIn : List Byte
  /-- R175: the frame in progress. -/
  frame : Option Frame
  deriving DecidableEq, Repr

/-- R136, R158: the power record once a power-on reset has ended. -/
def Power.powerOn : Power where
  state := .waking
  attempt := 1
  sleepCountdown := none
  wakeTimer := some 120
  notedWake := false
  cycleOwed := false
  staged := 0
  current := 0
  windowCountdown := none

/-- The part right after a power-on reset has ended: every field at the value its own rule gives (R2, R12, R14, R27,
R68, R86 to R88, R107, R113, R120, R127, R136, R160, R170, R172, R173, R175, R191, R192), the WAKE_REQUEST of the reset
wake sent (R158), and no command waiting. -/
def State.reset : State where
  pending := []
  resetPin := .released
  initiators := Vector.replicate Config.numInitiators .empty
  upstreamOut := []
  regions := Vector.replicate Config.numRegions .powerOn
  entries := Vector.replicate Config.numEntries (.cleared .zero)
  ageList := []
  seqCounter := 0
  counts := .zero
  reads := []
  groups := Vector.replicate Config.numGroups .powerOn
  drains := []
  timestamp := 0
  divider := 100
  slots := Vector.replicate Config.numTags .free
  passRetries := []
  releaseRetries := []
  pressure := false
  respLimitSeen := 250
  downstreamOut := [.wakeRequest]
  power := .powerOn
  opp := false
  faults := Vector.replicate Config.numFaults none
  faultOrder := []
  events := 0x1000
  counters := .zero
  resetRecord := { cause := .powerOn, lostLines := 0 }
  regs := .powerOn
  chipSelectLow := false
  serialIn := []
  frame := none

end Sys2Proof.Machine
end

