-- ==== Sys2Proof/Machine/Flags.lean ====
section
/-! DEFINITION. Machine/Flags.lean: the attention status, its level causes and ATTNn, and the counters (chapter 8). -/

namespace Sys2Proof.Machine

/-- R165: the event causes of attention. -/
inductive EventCause where
  | faultAdded | readFailed | wakeRetry | protocol | lateCompletion | groupClosed (g : GroupIx) | resetSeen
  deriving DecidableEq, Repr

/-- R165: the level causes of attention. -/
inductive LevelCause where
  | releaseHalted | unavailable | tagsStuck
  deriving DecidableEq, Repr

/-- 10.5: the value of an event cause in a set of causes. -/
def eventValue : EventCause → BitVec 16
  | .faultAdded => 0x0001
  | .readFailed => 0x0004
  | .wakeRetry => 0x0008
  | .protocol => 0x0020
  | .lateCompletion => 0x0040
  | .groupClosed g => 0x0100 <<< g.val
  | .resetSeen => 0x1000

/-- 10.5: the value of a level cause in a set of causes. -/
def levelValue : LevelCause → BitVec 16
  | .releaseHalted => 0x0002
  | .unavailable => 0x0010
  | .tagsStuck => 0x0080

/-- R165: a raise sets the event cause; one that is set stays set. -/
def raise (c : EventCause) (s : State) : State :=
  { s with events := s.events ||| eventValue c }

/-- R168, 10.5: the values 2^13 to 2^15 name no cause. -/
def namesNonCause (v : BitVec 16) : Bool :=
  v &&& 0xE000 != 0

/-! ## Conditions that the level causes and the records report -/

/-- The slot is BUSY. -/
def Slot.isBusy : Slot → Bool
  | .busy .. => true
  | .free | .quarantined .. => false

/-- The slot is QUARANTINED. -/
def Slot.isQuarantined : Slot → Bool
  | .quarantined .. => true
  | .free | .busy .. => false

/-- R113: the number of BUSY slots. -/
def busySlots (s : State) : Nat := s.slots.countP Slot.isBusy

/-- R113: the number of QUARANTINED slots. -/
def quarantinedSlots (s : State) : Nat := s.slots.countP Slot.isQuarantined

/-- R133: the release halt is in force while the fault list holds 6 records. -/
def halted (s : State) : Bool := Config.numFaults ≤ s.faultOrder.length

/-- R132. -/
def tagsStuck (s : State) : Bool :=
  busySlots s == 0 && s.regs.creditLimit.toNat ≤ quarantinedSlots s

/-- R149. -/
def unavailable (s : State) : Bool := s.power.state == .unavailable

/-- R166: whether a level cause's condition holds. -/
def levelHolds (s : State) : LevelCause → Bool
  | .releaseHalted => halted s
  | .unavailable => unavailable s
  | .tagsStuck => tagsStuck s

/-- The set that holds a level cause while its condition holds. -/
def levelSet (s : State) (c : LevelCause) : BitVec 16 :=
  if levelHolds s c then levelValue c else 0

/-- R165: the attention status: each event cause as stored, each level cause as its condition stands. -/
def attention (s : State) : BitVec 16 :=
  s.events ||| levelSet s .releaseHalted ||| levelSet s .unavailable ||| levelSet s .tagsStuck

/-- R167: ATTNn is driven low while a cause that reads as set is enabled, and is released while a reset is asserted. -/
def attnLow (s : State) : Bool :=
  s.resetPin == .released && attention s &&& s.regs.attnEnable != 0

/-! ## Counters (R171: each increases by 1 at its event and wraps) -/

/-- R147. -/
def countWake (s : State) : State :=
  { s with counters := { s.counters with wakes := s.counters.wakes + 1 } }

/-- R142. -/
def countSleep (s : State) : State :=
  { s with counters := { s.counters with sleeps := s.counters.sleeps + 1 } }

/-- R66. -/
def countFullHit (s : State) : State :=
  { s with counters := { s.counters with fullHits := s.counters.fullHits + 1 } }

/-- R50. -/
def countThroughWrite (s : State) : State :=
  { s with counters := { s.counters with throughWrites := s.counters.throughWrites + 1 } }

/-- R57, R79, R126. -/
def countRetry (s : State) : State :=
  { s with counters := { s.counters with retries := s.counters.retries + 1 } }

/-- R163. -/
def countDiscardedLine (s : State) : State :=
  { s with counters := { s.counters with discardedLines := s.counters.discardedLines + 1 } }

end Sys2Proof.Machine
end

