-- ==== Sys2Proof/Machine/Operands.lean ====
section
/-! DEFINITION. Machine/Operands.lean: how the operands of commands are read (addresses, byte positions, requests, the
region entry of REGION_WRITE) and how what the part sends or returns is laid out (chapter 10). -/

namespace Sys2Proof.Machine

/-! ## Addresses and byte positions (00_scope.md, Conventions) -/

/-- The line address: the address with its low 6 bits dropped. -/
def lineOf (a : Addr) : LineAddr := a.extractLsb' 6 34

/-- The offset of an address within its line. -/
def offsetOf (a : Addr) : Nat := a.toNat % 64

/-- R4: the positions from the offset of an address to that offset plus a length, less one. -/
def positions (a : Addr) (length : Nat) : Mask :=
  BitVec.ofNat 64 ((2 ^ length - 1) * 2 ^ offsetOf a)

/-- The bytes of bs at the positions from the offset of an address on, and zero elsewhere. -/
def placed (a : Addr) (bs : List Byte) : Line :=
  Vector.ofFn fun p : Fin Config.lineBytes =>
    if offsetOf a ≤ p.val then bs.getD (p.val - offsetOf a) 0 else 0

/-- R9, R77: the bytes of new at the positions in the mask, and of old at the others. -/
def overlay (m : Mask) (new old : Line) : Line :=
  Vector.ofFn fun p : Fin Config.lineBytes => if m.getLsbD p.val then new[p] else old[p]

/-- R195: a line's bytes at the positions in the mask, and zero at the others. -/
def masked (m : Mask) (bytes : Line) : Line := overlay m bytes .zero

/-- R66, R77: the bytes of a line at the positions asked for, in address order. -/
def bytesAt (a : Addr) (length : Nat) (bytes : Line) : List Byte :=
  (List.range length).map fun k => bytes.toList.getD (offsetOf a + k) 0

/-- The mask holds every position of the other. -/
def covers (m wanted : Mask) : Bool := wanted &&& ~~~m == 0

/-- The 64 bytes of a line from a list of 64 bytes; none for another length (R125). -/
def lineOfList (bs : List Byte) : Option Line :=
  if h : bs.length = Config.lineBytes then some ⟨bs.toArray, by simpa using h⟩ else none

/-! ## Requests (10.1) -/

/-- 10.1: the kind is READ. -/
def isRead (r : Request) : Bool := r.kind == 0
/-- 10.1: the kind is WRITE. -/
def isWrite (r : Request) : Bool := r.kind == 1
/-- 10.1: the kind is DRAIN. -/
def isDrain (r : Request) : Bool := r.kind == 2
/-- 10.1: the kind is undefined. -/
def isUndefinedKind (r : Request) : Bool := r.kind == 3

/-- 10.1: the DURABLE attribute, at value 1. -/
def hasDurable (r : Request) : Bool := r.attributes.getLsbD 0
/-- 10.1: the URGENT attribute, at value 2. -/
def hasUrgent (r : Request) : Bool := r.attributes.getLsbD 1

/-- The line a READ or WRITE names. -/
def requestLine (r : Request) : LineAddr := lineOf r.address
/-- The positions a READ asks for or a WRITE covers. -/
def requestMask (r : Request) : Mask := positions r.address r.length.toNat
/-- The bytes of a WRITE at their positions. -/
def requestBytes (r : Request) : Line := placed r.address r.data

/-- R193: the checks of a READ or WRITE that both share: the length, the line boundary and the group set. -/
def badExtent (r : Request) : Bool :=
  r.length.toNat == 0 || 64 < r.length.toNat || 64 < offsetOf r.address + r.length.toNat || r.groups != 0

/-- R193: the request is malformed. -/
def malformed (r : Request) : Bool :=
  if isRead r then badExtent r || hasDurable r || !r.data.isEmpty
  else if isWrite r then badExtent r || r.data.length != r.length.toNat
  else if isDrain r then r.length != 0 || r.attributes != 0 || !r.data.isEmpty
  else true

/-- The initiator number of a request, if it names an initiator (R191: 6 and 7 name none). -/
def initiatorOf (n : BitVec 3) : Option InitIx :=
  if h : n.toNat < Config.numInitiators then some ⟨n.toNat, h⟩ else none

/-- The groups of a set, in increasing group number. -/
def groupsOf (set : BitVec 4) : List GroupIx :=
  (List.finRange Config.numGroups).filter fun g => set.getLsbD g.val

/-! ## Arguments of management commands (R177, R197) -/

/-- A group number in range (R179). -/
def groupArg (b : Byte) : Option GroupIx :=
  if h : b.toNat < Config.numGroups then some ⟨b.toNat, h⟩ else none

/-- An entry index in range (R179). -/
def entryArg (b : Byte) : Option EntryIx :=
  if h : b.toNat < Config.numEntries then some ⟨b.toNat, h⟩ else none

/-- A region index in range (R37, R40). -/
def regionArg (b : Byte) : Option RegionIx :=
  if h : b.toNat < Config.numRegions then some ⟨b.toNat, h⟩ else none

/-- A fault list slot in range (R164). -/
def faultArg (b : Byte) : Option FaultIx :=
  if h : b.toNat < Config.numFaults then some ⟨b.toNat, h⟩ else none

/-! ## Encodings of names (10.1, 10.2, 10.4, 10.5, R197) -/

/-- R175: the management status values. -/
inductive Status where
  | ok | busy | refused | badArg | unknown
  deriving DecidableEq, Repr

/-- R197. -/
def statusCode : Status → Byte
  | .ok => 0
  | .busy => 1
  | .refused => 2
  | .badArg => 3
  | .unknown => 4

/-- 10.1: the kind field of a response. -/
def responseKind : Response → BitVec 2
  | .data _ => 0
  | .done => 1
  | .error _ => 2

/-- 10.1: an error cause's code. -/
def errorCode : ErrorCause → BitVec 3
  | .malformed => 1
  | .blocked => 2
  | .faultedLine => 3
  | .memory => 4
  | .unavailable => 5
  | .drainFault => 6

/-- 10.1: the error cause field of a response. -/
def responseCause : Response → BitVec 3
  | .data _ | .done => 0
  | .error c => errorCode c

/-- 10.1: the length field of a response. -/
def responseLength : Response → BitVec 7
  | .data bs => BitVec.ofNat 7 bs.length
  | .done | .error _ => 0

/-- 10.2: the kind field of a message to the memory controller. -/
def downKind : DownMessage → BitVec 3
  | .lineRead .. => 0
  | .lineWrite .. => 1
  | .sleepRequest => 2
  | .wakeRequest => 3

/-- 10.5: the entry record's state byte. -/
def entryStateCode : EntryState → Nat
  | .free => 0
  | .held => 1
  | .releasing => 2
  | .faulted => 3

/-- 10.5: the status record's power state byte. -/
def powerCode : PowerState → Nat
  | .awake => 0
  | .entering => 1
  | .asleep => 2
  | .waking => 3
  | .unavailable => 4

/-- 10.5: the status record's group state byte. -/
def groupStateCode : GroupState → Nat
  | .idle => 0
  | .holding => 1
  | .closing => 2
  | .closed => 3

/-- 10.5: the fault record's cause byte. -/
def failCauseCode : FailCause → Nat
  | .fail => 0
  | .poison => 1
  | .timeout => 2

/-- R197: the upper byte of RESET_RECORD. -/
def resetCauseCode : ResetCause → Nat
  | .powerOn => 0
  | .pin => 1
  | .clear => 2

/-- R197: FULL_POLICY's encoding. -/
def fullPolicyCode : FullPolicy → Nat
  | .stall => 0
  | .through => 1

/-- R197: REL_MODE's encoding. -/
def relModeCode : RelMode → Nat
  | .quiet => 0
  | .count => 1

/-- R26: a policy's code in the region entry layout. -/
def policyCode : Policy → Nat
  | .hold .. => 0
  | .pass => 1
  | .block => 2

/-- A read class's code in the region entry layout. -/
def readClassCode : ReadClass → Nat
  | .urgent => 0
  | .deferrable => 1

/-- A flag as a number. -/
def bit (b : Bool) : Nat := if b then 1 else 0

/-- The byte of a number below 256. -/
def byte (n : Nat) : Byte := BitVec.ofNat 8 n

/-! ## The region entry layout (10.5, R198, R199) -/

/-- R198: byte 0 of a region entry. -/
def regionFlags (r : Region) : Nat :=
  bit r.valid * 128 + policyCode r.policy +
    match r.policy with
    | .hold g d => g.val * 16 + bit d * 8
    | .pass | .block => 0

/-- The eight bytes of a region entry. -/
def regionBytes (r : Region) : List Byte :=
  [byte (regionFlags r), byte (readClassCode r.readClass), byte r.sizeLog] ++ bytesBE 5 r.base.toNat

/-- What REGION_WRITE's entry bytes hold before they are checked: the fields of 10.5. -/
structure RegionFields where
  valid : Bool
  group : BitVec 3
  durable : Bool
  policy : BitVec 2
  readClass : BitVec 2
  size : BitVec 8
  base : Addr
  deriving DecidableEq, Repr

/-- R199: the fields of the eight entry bytes, the first byte in bits 63 to 56. -/
def regionFields (e : BitVec 64) : RegionFields where
  valid := e.getLsbD 63
  group := e.extractLsb' 60 3
  durable := e.getLsbD 59
  policy := e.extractLsb' 56 2
  readClass := e.extractLsb' 48 2
  size := e.extractLsb' 40 8
  base := e.extractLsb' 0 40

/-- R37, R199: the read class a code names. -/
def readClassOf (c : BitVec 2) : Option ReadClass :=
  if c == 0 then some .urgent else if c == 1 then some .deferrable else none

/-- R37, R199: the policy the fields name; none for an undefined code or a HOLD entry whose group is above 3. -/
def policyOf (f : RegionFields) : Option Policy :=
  if f.policy == 0 then
    if h : f.group.toNat < Config.numGroups then some (.hold ⟨f.group.toNat, h⟩ f.durable) else none
  else if f.policy == 1 then some .pass
  else if f.policy == 2 then some .block
  else none

/-- R37, R199: the entry that the bytes of a REGION_WRITE store, or none where an argument is refused with BAD_ARG. With
the valid bit clear only the index is checked, and the other fields take their power-on values. -/
def regionOf (e : BitVec 64) : Option Region :=
  let f := regionFields e
  if !f.valid then some .powerOn
  else if f.size.toNat < 12 || 40 < f.size.toNat then none
  else if f.base.toNat % 2 ^ f.size.toNat != 0 then none
  else
    match policyOf f, readClassOf f.readClass with
    | some p, some c => some { valid := true, base := f.base, sizeLog := f.size.toNat, policy := p, readClass := c }
    | _, _ => none

/-! ## The entry record and the fault record (10.5, R198) -/

/-- 10.5: one durable waiter: the initiator at bits 6 to 4, the tag at bits 3 to 0. -/
def waiterByte (w : Waiter) : Byte := byte (w.initiator.val * 16 + w.tag.toNat)

/-- The first n bytes of a list, zero where the list is shorter. -/
def padded (n : Nat) (bs : List Byte) : List Byte := (List.range n).map fun k => bs.getD k 0

/-- R181, R198: the 98 bytes of an entry record reply. DESIGN CHOICE notes/assumptions/36.md: the data bytes go in position
order, position 0 first. -/
def entryBytes (e : Entry) : List Byte :=
  [byte (entryStateCode e.state), byte (bit e.expedite + 2 * bit e.faultSlot.isSome), byte e.group.val,
    byte e.attempts, byte ((e.faultSlot.map Fin.val).getD 0), byte e.waiters.length] ++
  padded 3 (e.waiters.map waiterByte) ++
  bytesBE 5 e.line.toNat ++ bytesBE 8 e.mask.toNat ++ bytesBE 6 e.seq.toNat ++ bytesBE 4 e.allocTime.toNat ++
  bytesBE 2 e.merges.toNat ++
  (if e.state = .faulted then e.data else Line.zero).toList

/-- R164, R198: the 86 bytes of a fault record reply: the record in slot k and the data bytes of its entry.
DESIGN CHOICE notes/assumptions/36.md: the data bytes go in position order, position 0 first. -/
def faultBytes (k : FaultIx) (f : FaultRecord) (data : Line) : List Byte :=
  [byte k.val, byte f.entry.val, byte f.group.val, byte (failCauseCode f.cause), byte f.attemptsMade] ++
  bytesBE 5 f.line.toNat ++ bytesBE 8 f.mask.toNat ++ bytesBE 4 f.time.toNat ++ data.toList

/-! ## Registers (9.6) -/

/-- 9.6: the width of a register. -/
def registerWidth : Register → Nat
  | .id | .wakes | .sleeps | .fullHits | .throughWrites | .retries | .discardedLines => 32
  | .tickDiv | .fullPolicy | .deferCount | .rdRetry | .wrRetry | .creditLimit | .highMark | .lowMark | .oppMark
  | .relMode _ | .lineLimit _ => 8
  | .companions _ => 4
  | .deferLimit | .respLimit | .sleepDelay | .wakeLimit | .windowPeriod | .ageLimit _ | .relValue _ | .attnEnable
  | .attnStatus | .resetRecord => 16

/-- 9.6: the registers that the table marks read only. -/
def readOnly : Register → Bool
  | .id | .attnStatus | .wakes | .sleeps | .fullHits | .throughWrites | .retries | .discardedLines | .resetRecord => true
  | _ => false

/-- R190, R197: the ID register's value. -/
def idValue : Nat := Config.vendorCode * 2 ^ 20 + Config.partCode * 2 ^ 8 + Config.revision

/-- R187, R197: the value of a register, in the encodings of chapter 10. -/
def registerValue (s : State) : Register → Nat
  | .id => idValue
  | .tickDiv => s.regs.tickDiv.toNat
  | .fullPolicy => fullPolicyCode s.regs.fullPolicy
  | .deferLimit => s.regs.deferLimit.toNat
  | .deferCount => s.regs.deferCount.toNat
  | .rdRetry => s.regs.rdRetry.toNat
  | .wrRetry => s.regs.wrRetry.toNat
  | .creditLimit => s.regs.creditLimit.toNat
  | .respLimit => s.regs.respLimit.toNat
  | .highMark => s.regs.highMark.toNat
  | .lowMark => s.regs.lowMark.toNat
  | .oppMark => s.regs.oppMark.toNat
  | .sleepDelay => s.regs.sleepDelay.toNat
  | .wakeLimit => s.regs.wakeLimit.toNat
  | .windowPeriod => s.power.staged.toNat
  | .ageLimit g => s.groups[g].ageLimit.toNat
  | .relMode g => relModeCode s.groups[g].relMode
  | .relValue g => s.groups[g].relValue.toNat
  | .lineLimit g => s.groups[g].lineLimit.toNat
  | .companions g => s.groups[g].companions.toNat
  | .attnEnable => s.regs.attnEnable.toNat
  | .attnStatus => (attention s).toNat
  | .wakes => s.counters.wakes.toNat
  | .sleeps => s.counters.sleeps.toNat
  | .fullHits => s.counters.fullHits.toNat
  | .throughWrites => s.counters.throughWrites.toNat
  | .retries => s.counters.retries.toNat
  | .discardedLines => s.counters.discardedLines.toNat
  | .resetRecord => resetCauseCode s.resetRecord.cause * 256 + s.resetRecord.lostLines

end Sys2Proof.Machine
end

