-- ==== Sys2Proof/Machine/Ops.lean ====
section
/-! DEFINITION. Machine/Ops.lean: the shared operations of every block but the store's transitions and the group unit:
lookups, what the links send, waits at queue heads, due entries, pressure, the idle condition, wake causes. Each takes
one whole transition of the spec's; the commands are composed from them. -/

namespace Sys2Proof.Machine

/-! ## Small updates -/

/-- Replaces the entry with index e. -/
def setEntry (e : EntryIx) (x : Entry) (s : State) : State :=
  { s with entries := s.entries.set e x }

/-- Replaces the record of group g. -/
def setGroup (g : GroupIx) (x : Group) (s : State) : State :=
  { s with groups := s.groups.set g x }

/-- Replaces initiator i's queue record. -/
def setInitiator (i : InitIx) (x : Initiator) (s : State) : State :=
  { s with initiators := s.initiators.set i x }

/-- Replaces slot k of the tag table. -/
def setSlot (k : TagIx) (x : Slot) (s : State) : State :=
  { s with slots := s.slots.set k x }

/-- Replaces the power record. -/
def setPower (p : Power) (s : State) : State := { s with power := p }

/-- Replaces the configuration values of the register window. -/
def setRegs (r : Regs) (s : State) : State := { s with regs := r }

/-- R87: the ticks elapsed since a recorded timestamp, modulo 2^32. -/
def elapsed (s : State) (since : Timestamp) : Nat := (s.timestamp - since).toNat

/-! ## Lookups -/

/-- R4: the entry that holds a line, in any state but FREE. -/
def lookup (s : State) (l : LineAddr) : Option EntryIx :=
  (List.finRange Config.numEntries).find? fun e => s.entries[e].state != .free && s.entries[e].line == l

/-- R6: the lowest-indexed FREE entry. -/
def lowestFreeEntry (s : State) : Option EntryIx :=
  (List.finRange Config.numEntries).find? fun e => s.entries[e].state == .free

/-- R115: the lowest-numbered FREE slot. -/
def lowestFreeSlot (s : State) : Option TagIx :=
  (List.finRange Config.numTags).find? fun k => s.slots[k] == .free

/-- R162: the lowest-numbered free slot of the fault list. -/
def lowestFreeFault (s : State) : Option FaultIx :=
  (List.finRange Config.numFaults).find? fun k => s.faults[k].isNone

/-- The line's entry is in a given state. -/
def lineIn (s : State) (l : LineAddr) (st : EntryState) : Bool :=
  match lookup s l with
  | some e => s.entries[e].state == st
  | none => false

/-- R42: the pending read list holds a read of the line. -/
def lineHasRead (s : State) (l : LineAddr) : Bool :=
  s.reads.any fun r => lineOf r.address == l

/-- The slot carries a pass-through write of the line. -/
def slotCarriesPass (l : LineAddr) : Slot → Bool
  | .busy (.pass w) _ _ => lineOf w.address == l
  | .busy (.read ..) _ _ | .busy (.release _) _ _ | .free | .quarantined .. => false

/-- A pass-through write of the line waits at this queue's head. -/
def headIsPass (l : LineAddr) (q : Initiator) : Bool :=
  match q.head, q.queue with
  | .passThrough, r :: _ => requestLine r == l
  | _, _ => false

/-- R43: a pass-through write is outstanding on the line: it waits at its head, is in flight or awaits a retry. -/
def lineHasPass (s : State) (l : LineAddr) : Bool :=
  s.initiators.any (headIsPass l) || s.slots.any (slotCarriesPass l) ||
    s.passRetries.any fun p => lineOf p.write.address == l

/-- R12: the newest sequence number issued; none when the counter is 0. -/
def newest (s : State) : Option Seq := if s.seqCounter == 0 then none else some (s.seqCounter - 1)

/-- R12: the counter's top value, 2^48 - 1. -/
def topSeq : Seq := BitVec.allOnes 48

/-- R152: window mode is on. -/
def windowMode (s : State) : Bool := s.power.current != 0

/-- The number of non-FREE entries (R24). -/
def nonFreeEntries (s : State) : Nat := s.entries.countP fun e => e.state != .free

/-! ## What the links send -/

/-- Sends a message downstream. -/
def sendDown (m : DownMessage) (s : State) : State :=
  { s with downstreamOut := s.downstreamOut ++ [m] }

/-- Sends a message upstream (R194: in the order of the transitions that produce them). -/
def sendUp (m : UpMessage) (s : State) : State :=
  { s with upstreamOut := s.upstreamOut ++ [m] }

/-- R192: a tag leaves its initiator's outstanding set. -/
def dropTag (i : InitIx) (t : UpTag) (s : State) : State :=
  setInitiator i { s.initiators[i] with tags := s.initiators[i].tags &&& ~~~(1#16 <<< t.toNat) } s

/-- R192, R194: a response is sent, and its tag leaves the outstanding set in the same transition. -/
def respond (i : InitIx) (t : UpTag) (r : Response) (s : State) : State :=
  sendUp (.response (BitVec.ofNat 3 i.val) t r) (dropTag i t s)

/-- Answers every pair of a list in list order (R10). -/
def respondAll (ws : List Waiter) (r : Response) (s : State) : State :=
  ws.foldl (fun s w => respond w.initiator w.tag r s) s

/-- R191: the head request leaves the inbound queue of initiator i, and its credit is returned. -/
def popHead (i : InitIx) (s : State) : State :=
  let q := s.initiators[i]
  sendUp (.credit i)
    (setInitiator i { q with queue := q.queue.tail, head := .undecided, credits := q.credits + 1 } s)

/-- A head request is answered at its decision and leaves its queue. -/
def answerHead (i : InitIx) (t : UpTag) (r : Response) (s : State) : State :=
  popHead i (respond i t r s)

/-- Sets where the head of initiator i's queue stands. -/
def setHead (i : InitIx) (h : HeadStatus) (s : State) : State :=
  setInitiator i { s.initiators[i] with head := h } s

/-! ## Waits at queue heads (R60, R65, R106) -/

/-- A STALL write waits at this queue's head. -/
def headStalls (q : Initiator) : Bool := q.head == .waiting .stall

/-- R49: a STALL write waits for allocation. -/
def stallWaiting (s : State) : Bool := s.initiators.any headStalls

/-- R52: the line's entry is HELD with a full durable waiters list. -/
def waitersFull (s : State) (l : LineAddr) : Bool :=
  match lookup s l with
  | some e => s.entries[e].state == .held && Config.maxWaiters ≤ s.entries[e].waiters.length
  | none => false

/-- Whether a wait of request r has ended, as the state stands. A wait under STALL ends by the events of R49 alone
(endStalls). -/
def waitOver (s : State) (r : Request) : WaitCause → Bool
  | .pendingRead onRelease =>
    !lineHasRead s (requestLine r) || (onRelease && !lineIn s (requestLine r) .releasing)
  | .passThrough => !lineHasPass s (requestLine r)
  | .releasing => !lineIn s (requestLine r) .releasing
  | .waitersFull => !waitersFull s (requestLine r)
  | .stall => false
  | .readListFull => s.reads.length < Config.maxReads
  | .drainListFull => s.drains.length < Config.maxDrains

/-- R60: a head whose wait has ended is to be decided again. -/
def endWait (s : State) (q : Initiator) : Initiator :=
  match q.head, q.queue with
  | .waiting c, r :: _ => if waitOver s r c then { q with head := .undecided } else q
  | _, _ => q

/-- Ends every wait that is over (R21, R42, R43, R52, R65, R106). -/
def endWaits (s : State) : State :=
  { s with initiators := s.initiators.map (endWait s) }

/-- R49: a STALL write's wait ends. -/
def endStall (q : Initiator) : Initiator :=
  if headStalls q then { q with head := .undecided } else q

/-- R49: every STALL write's wait ends. DESIGN CHOICE notes/assumptions/35.md: the pressure test of the transition (settle)
comes after it, so pressure may end before the writes are decided again. -/
def endStalls (s : State) : State :=
  { s with initiators := s.initiators.map endStall }

/-! ## Due entries and release candidates (R117, R118) -/

/-- R100, R103: the episode's mark covers the sequence number. -/
def episodeCovers : Episode → Seq → Bool
  | .mark m, q => q ≤ m
  | .noMark, _ | .absent, _ => false

/-- R117: the entry is due for release. -/
def due (s : State) (e : EntryIx) : Bool :=
  let x := s.entries[e]
  x.state == .held && (x.expedite || episodeCovers s.groups[x.group].episode x.seq || s.pressure)

/-- R16, R118: a pending read of the line holds off the entry's release start. -/
def heldOff (s : State) (l : LineAddr) : Bool :=
  s.reads.any fun r =>
    lineOf r.address == l && (r.state == .ready || r.state == .issued || r.state == .retryWait)

/-- R118: the entry may be started now. -/
def startable (s : State) (e : EntryIx) : Bool := due s e && !heldOff s s.entries[e].line

/-- R118: the first release candidate: expedited entries in age list order, then the others in age list order. -/
def firstCandidate (s : State) : Option EntryIx :=
  (s.ageList.find? fun e => startable s e && s.entries[e].expedite) <|> s.ageList.find? (startable s)

/-! ## The idle condition and the sleep countdown (R138, R139) -/

/-- A pass-through write waits at this queue's head for the memory or a tag. -/
def headPasses (q : Initiator) : Bool := q.head == .passThrough

/-- R138: due entries, which are not counted while the release halt is in force. -/
def anyDueCounted (s : State) : Bool :=
  !halted s && (List.finRange Config.numEntries).any (due s)

/-- R138: the idle condition. -/
def idleCondition (s : State) : Bool :=
  !s.slots.any Slot.isBusy && !(s.entries.any fun e => e.state == .releasing) && s.reads.isEmpty &&
    !anyDueCounted s && !s.initiators.any headPasses && s.passRetries.isEmpty && !stallWaiting s

/-- R139: the sleep countdown runs in AWAKE while the idle condition holds and SLEEP_DELAY is above 0. -/
def countdownRuns (s : State) : Bool :=
  s.power.state == .awake && idleCondition s && s.regs.sleepDelay != 0

/-- R139: the countdown starts from SLEEP_DELAY where it comes to run, goes on where it runs, and stops otherwise. -/
def idleTest (s : State) : State :=
  let left :=
    if countdownRuns s then some (s.power.sleepCountdown.getD s.regs.sleepDelay.toNat) else none
  setPower { s.power with sleepCountdown := left } s

/-! ## Wake causes (R145) -/

/-- R146: a wake attempt: WAKE_REQUEST is sent and the wake timer starts from WAKE_LIMIT, in WAKING at attempt n. -/
def wakeAttempt (n : Nat) (s : State) : State :=
  sendDown .wakeRequest
    (setPower { s.power with state := .waking, attempt := n, wakeTimer := some s.regs.wakeLimit.toNat } s)

/-- R145: the controller takes a wake cause according to its power state. -/
def takeWake (s : State) : State :=
  match s.power.state with
  | .entering => setPower { s.power with notedWake := true } s
  | .asleep => wakeAttempt 1 s
  | .awake | .waking | .unavailable => s

/-- R71: an URGENT read in READY while the power state is not AWAKE. -/
def urgentStands (s : State) : Bool :=
  s.power.state != .awake && s.reads.any fun r => r.readClass == .urgent && r.state == .ready

/-- The DEFERRED entries of the pending read list, oldest first. -/
def deferredReads (s : State) : List PendingRead := s.reads.filter fun r => r.state == .deferred

/-- R72: the oldest DEFERRED read has waited DEFER_LIMIT or longer. -/
def deferLimitMet (s : State) : Bool :=
  match deferredReads s with
  | r :: _ => s.regs.deferLimit.toNat ≤ elapsed s r.arrival
  | [] => false

/-- R72: the DEFERRED reads stand as a wake cause. -/
def deferredStand (s : State) : Bool :=
  deferLimitMet s || (deferredReads s != [] && s.regs.deferCount.toNat ≤ (deferredReads s).length)

/-- R121: pressure stands a wake cause, unless the release halt is in force. -/
def pressureStands (s : State) : Bool := s.pressure && !halted s

/-- R142, R145: a standing wake cause holds. -/
def standingCause (s : State) : Bool := urgentStands s || deferredStand s || pressureStands s

/-- R70, R72: the deferral test: the DEFERRED reads stand as a wake cause from the moment they meet it. -/
def deferralTest (s : State) : State := if deferredStand s then takeWake s else s

/-! ## Pressure (R120, R121) -/

/-- R120: the start condition. -/
def pressureStart (s : State) : Bool :=
  s.regs.highMark.toNat ≤ s.counts.held || (s.opp && s.regs.oppMark.toNat ≤ s.counts.held) || stallWaiting s

/-- R120: the end condition. -/
def pressureEnd (s : State) : Bool :=
  s.counts.held ≤ s.regs.lowMark.toNat && !stallWaiting s && !pressureStart s

/-- R120, R121: the pressure test. Where pressure becomes active outside the halt, its wake cause comes to stand. -/
def pressureTest (s : State) : State :=
  if !s.pressure && pressureStart s then
    let t := { s with pressure := true }
    if halted t then t else takeWake t
  else if s.pressure && pressureEnd s then { s with pressure := false }
  else s

/-- The tests that follow a transition that can change their parts: pressure (R120), the waits at queue heads other than
those under STALL (R60) and the idle condition (R138). DESIGN CHOICE notes/assumptions/15.md: their order; the waits under
STALL have ended before them (endStalls, notes/assumptions/35.md). -/
def settle (s : State) : State := idleTest (endWaits (pressureTest s))

/-! ## Steps while a reset is asserted -/

/-- No reset input is asserted. -/
def running (s : State) : Bool := s.resetPin == .released

/-- R176, R196: the part takes no step but the resets' own while a reset input is asserted (notes/assumptions/6.md). -/
def whileRunning (f : State → State) (s : State) : State := if running s then f s else s

end Sys2Proof.Machine
end

