-- ==== Sys2Proof/Machine/Store.lean ====
section
/-! DEFINITION. Machine/Store.lean: the transitions of the hold store (1.4 to 1.9), each with everything it does to the
entry's record, the age list, the counts and the fault list. -/

namespace Sys2Proof.Machine

/-! ## The occupancy counts (R14) -/

/-- R14: the HELD count and the group's HELD count rise by 1. -/
def heldUp (g : GroupIx) (c : Counts) : Counts :=
  { c with held := c.held + 1, groupHeld := c.groupHeld.set g (c.groupHeld[g] + 1) }

/-- R14: the HELD count and the group's HELD count fall by 1. -/
def heldDown (g : GroupIx) (c : Counts) : Counts :=
  { c with held := c.held - 1, groupHeld := c.groupHeld.set g (c.groupHeld[g] - 1) }

/-- Replaces the counts. -/
def setCounts (c : Counts) (s : State) : State := { s with counts := c }

/-! ## The age list (R13) -/

/-- R13: the place a sequence number gives an entry: after every entry with a smaller number and before every entry
with a larger one. -/
def insertBySeq (s : State) (e : EntryIx) : List EntryIx → List EntryIx
  | [] => [e]
  | x :: xs => if s.entries[e].seq < s.entries[x].seq then e :: x :: xs else x :: insertBySeq s e xs

/-! ## Allocation and merging (R6, R9) -/

/-- R6: the record of a new entry: the bytes at the positions of the mask are the write's, the others are left. -/
def newEntry (s : State) (e : EntryIx) (l : LineAddr) (g : GroupIx) (m : Mask) (bytes : Line)
    (waiters : List Waiter) : Entry where
  state := .held
  line := l
  group := g
  mask := m
  data := overlay m bytes s.entries[e].data
  seq := s.seqCounter
  allocTime := s.timestamp
  merges := 0
  expedite := !waiters.isEmpty
  waiters := waiters
  attempts := 0
  lastCause := none
  faultSlot := none

/-- R6: allocation, FREE to HELD. A durable write is the sole waiter and sets expedite. -/
def allocate (e : EntryIx) (l : LineAddr) (g : GroupIx) (m : Mask) (bytes : Line) (waiters : List Waiter)
    (s : State) : State :=
  { s with
    entries := s.entries.set e (newEntry s e l g m bytes waiters)
    ageList := s.ageList ++ [e]
    seqCounter := s.seqCounter + 1
    counts := heldUp g s.counts }

/-- R9: the merge count increases by 1 unless it holds 65535. -/
def countMerge (n : BitVec 16) : BitVec 16 := if n == BitVec.allOnes 16 then n else n + 1

/-- R9: the entry after a merge. A durable write joins the tail of the waiters and sets expedite (R10, R11). -/
def mergedEntry (x : Entry) (m : Mask) (bytes : Line) (waiters : List Waiter) : Entry :=
  { x with
    mask := x.mask ||| m
    data := overlay m bytes x.data
    merges := countMerge x.merges
    waiters := x.waiters ++ waiters
    expedite := x.expedite || !waiters.isEmpty }

/-- R9: a write is merged into a HELD entry. -/
def merge (e : EntryIx) (m : Mask) (bytes : Line) (waiters : List Waiter) (s : State) : State :=
  setEntry e (mergedEntry s.entries[e] m bytes waiters) s

/-! ## Release of an entry (R15 to R20) -/

/-- R15: release start, HELD to RELEASING. -/
def startRelease (e : EntryIx) (s : State) : State :=
  let x := s.entries[e]
  { s with
    entries := s.entries.set e { x with state := .releasing, attempts := 0 }
    ageList := s.ageList.erase e
    counts := { heldDown x.group s.counts with releasing := s.counts.releasing + 1 } }

/-- R18: RELEASING to FREE: the durable waiters are answered DONE in list order and the record is cleared (R2). -/
def releaseToFree (e : EntryIx) (s : State) : State :=
  let x := s.entries[e]
  let s := respondAll x.waiters .done s
  { s with
    entries := s.entries.set e (.cleared x.data)
    counts := { s.counts with releasing := s.counts.releasing - 1 } }

/-- R126, R160: the record the fault list adds for an entry. -/
def faultRecordOf (s : State) (e : EntryIx) (cause : FailCause) : FaultRecord :=
  let x := s.entries[e]
  { entry := e, line := x.line, group := x.group, mask := x.mask, cause := cause, attemptsMade := x.attempts + 1,
    time := s.timestamp }

/-- R19, R162: RELEASING to FAULTED with a record in slot k: the durable waiters are answered ERROR MEMORY in list order
and FAULT_ADDED is raised. -/
def releaseToFaulted (e : EntryIx) (k : FaultIx) (cause : FailCause) (s : State) : State :=
  let x := s.entries[e]
  let record := faultRecordOf s e cause
  let s := respondAll x.waiters (.error .memory) s
  raise .faultAdded
    { s with
      entries := s.entries.set e { x with state := .faulted, waiters := [], faultSlot := some k }
      faults := s.faults.set k (some record)
      faultOrder := s.faultOrder ++ [k]
      counts := { s.counts with releasing := s.counts.releasing - 1, faulted := s.counts.faulted + 1 } }

/-- R20: RELEASING back to HELD: attempts 0, no last cause, and the place on the age list that the unchanged sequence
number gives. -/
def releaseToHeld (e : EntryIx) (s : State) : State :=
  let x := s.entries[e]
  { s with
    entries := s.entries.set e { x with state := .held, attempts := 0, lastCause := none }
    ageList := insertBySeq s e s.ageList
    counts := { heldUp x.group s.counts with releasing := s.counts.releasing - 1 } }

/-! ## Faulted entries (R22, R23) -/

/-- R163: a record is removed: its slot is free, and the records behind it keep their order and their slots. -/
def removeFault (k : FaultIx) (s : State) : State :=
  { s with faults := s.faults.set k none, faultOrder := s.faultOrder.erase k }

/-- R22: re-entry, FAULTED to HELD, with the next sequence number, expedite set and cleared history. -/
def reenter (e : EntryIx) (s : State) : State :=
  let x := s.entries[e]
  { s with
    entries := s.entries.set e
      { x with
        state := .held, seq := s.seqCounter, allocTime := s.timestamp, merges := 0, attempts := 0, lastCause := none,
        expedite := true, waiters := [], faultSlot := none }
    ageList := s.ageList ++ [e]
    seqCounter := s.seqCounter + 1
    counts := { heldUp x.group s.counts with faulted := s.counts.faulted - 1 } }

/-- R23: FAULTED to FREE: the record is cleared (R2) and DISCARDED_LINES increases. -/
def discard (e : EntryIx) (s : State) : State :=
  countDiscardedLine
    { s with
      entries := s.entries.set e (.cleared s.entries[e].data)
      counts := { s.counts with faulted := s.counts.faulted - 1 } }

/-- R53: the durable waiters of a HELD entry are answered ERROR UNAVAILABLE in list order and its list is emptied. -/
def refuseWaiters (s : State) (e : EntryIx) : State :=
  let x := s.entries[e]
  if x.state == .held then
    setEntry e { x with waiters := [] } (respondAll x.waiters (.error .unavailable) s)
  else s

end Sys2Proof.Machine
end

