-- ==== Sys2Proof/Machine/GroupUnit.lean ====
section
/-! DEFINITION. Machine/GroupUnit.lean: release requests, episodes, triggers and drains (chapter 5). -/

namespace Sys2Proof.Machine

/-! ## What a group holds -/

/-- The entry is a HELD or RELEASING entry of group g with a sequence number at or below the mark (R103, R106). -/
def inStoreUnder (g : GroupIx) (m : Seq) (x : Entry) : Bool :=
  (x.state == .held || x.state == .releasing) && x.group == g && x.seq ≤ m

/-- R103: a HELD or RELEASING entry of the group keeps its episode from ending. -/
def episodeHolds (s : State) (g : GroupIx) : Bool :=
  match s.groups[g].episode with
  | .mark m => s.entries.any (inStoreUnder g m)
  | .noMark | .absent => false

/-- R101: a HELD entry of the group is covered by the group's mark. -/
def coveredHeld (s : State) (g : GroupIx) : Bool :=
  s.entries.any fun x => x.state == .held && x.group == g && episodeCovers s.groups[g].episode x.seq

/-- R90, R99: the group is HOLDING and has at least one HELD entry. -/
def holdingWithHeld (s : State) (g : GroupIx) : Bool :=
  s.groups[g].state == .holding && 0 < s.counts.groupHeld[g]

/-! ## Drains (R106 to R109) -/

/-- R106: the entry is covered by a drain of the groups in the set at the mark. -/
def drainCovers (groups : BitVec 4) (m : Seq) (x : Entry) : Bool :=
  groups.getLsbD x.group.val && x.seq ≤ m

/-- R109: a covered entry is HELD or RELEASING. -/
def drainHeldUp (s : State) (groups : BitVec 4) (m : Seq) : Bool :=
  s.entries.any fun x => (x.state == .held || x.state == .releasing) && drainCovers groups m x

/-- R109: a covered entry is FAULTED. -/
def drainFaulted (s : State) (groups : BitVec 4) (m : Seq) : Bool :=
  s.entries.any fun x => x.state == .faulted && drainCovers groups m x

/-- R109: the answer of a drain that waits for nothing: ERROR DRAIN_FAULT if a covered entry is FAULTED, else DONE. -/
def drainAnswer (s : State) (groups : BitVec 4) (m : Seq) : Response :=
  if drainFaulted s groups m then .error .drainFault else .done

/-- R109: the record names group g and none of its covered entries is HELD or RELEASING. -/
def drainRetires (s : State) (g : GroupIx) (d : Drain) : Bool :=
  d.groups.getLsbD g.val && !drainHeldUp s d.groups d.mark

/-- R109: a retired drain is answered. -/
def answerDrain (s : State) (d : Drain) : State :=
  respond d.initiator d.tag (drainAnswer s d.groups d.mark) s

/-- R109: the drain records that name group g are tested for retirement and answered in list order. -/
def testDrains (g : GroupIx) (s : State) : State :=
  let kept := s.drains.filter fun d => !drainRetires s g d
  (s.drains.filter (drainRetires s g)).foldl answerDrain { s with drains := kept }

/-! ## Episodes (R100 to R104) -/

/-- R92, R104: the group record after the end of its episode, with a HELD count of n. -/
def endedGroup (s : State) (x : Group) (n : Nat) : Group :=
  let x := { x with episode := .absent, writeCount := 0, pendingRelease := false }
  match x.state with
  | .holding => { x with ageTimer := if 0 < n then some s.timestamp else none }
  | .closing => { x with state := .closed, ageTimer := none, quietTimer := none }
  | .idle | .closed => x

/-- R92: a CLOSING group whose episode ends raises GROUP_CLOSED. -/
def raiseClosed (g : GroupIx) (before : GroupState) (s : State) : State :=
  if before = .closing then raise (.groupClosed g) s else s

/-- R104: the group's episode ends, and the drains that name it are tested. -/
def endEpisode (g : GroupIx) (s : State) : State :=
  let x := s.groups[g]
  testDrains g (raiseClosed g x.state (setGroup g (endedGroup s x s.counts.groupHeld[g]) s))

/-- R103: the episode end test. -/
def testEpisode (g : GroupIx) (s : State) : State :=
  if s.groups[g].episode = .absent then s
  else if episodeHolds s g then s
  else endEpisode g s

/-- R100: the group's episode is opened or raised. -/
def setEpisode (ep : Episode) (s : State) (g : GroupIx) : State :=
  setGroup g { s.groups[g] with episode := ep } s

/-- Sets the group's pending release. -/
def setPendingRelease (v : Bool) (s : State) (g : GroupIx) : State :=
  setGroup g { s.groups[g] with pendingRelease := v } s

/-- R100: the groups a release request of group g reaches: its own, then each companion that is HOLDING with a HELD
entry. -/
def reached (s : State) (g : GroupIx) : List GroupIx :=
  g :: (groupsOf s.groups[g].companions).filter fun c => c != g && holdingWithHeld s c

/-- R101: the wake of a release request or a close that reached the groups gs: posted, owed or not wanted. -/
def requestWake (gs : List GroupIx) (s : State) : State :=
  let covered := gs.filter (coveredHeld s)
  if covered = [] then s
  else if halted s then covered.foldl (setPendingRelease true) s
  else if windowMode s && s.power.state == .asleep then covered.foldl (setPendingRelease true) s
  else if s.power.state == .awake then covered.foldl (setPendingRelease false) s
  else takeWake s

/-- R103: the episode end test for each of the groups. -/
def testEpisodes (gs : List GroupIx) (s : State) : State :=
  gs.foldl (fun s g => testEpisode g s) s

/-- The group is HOLDING or CLOSING. -/
def active (s : State) (g : GroupIx) : Bool :=
  s.groups[g].state == .holding || s.groups[g].state == .closing

/-- R100, R101, R103: a release request of group g. -/
def releaseRequest (g : GroupIx) (s : State) : State :=
  match newest s with
  | none => s
  | some m =>
    if active s g then
      let gs := reached s g
      testEpisodes gs (requestWake gs (gs.foldl (setEpisode (.mark m)) s))
    else s

/-- R108: the wake of a drain's release requests that reached the groups gs: not deferred by window mode, and owed only
under the halt. -/
def drainWake (gs : List GroupIx) (s : State) : State :=
  let covered := gs.filter (coveredHeld s)
  if covered = [] then s
  else if halted s then covered.foldl (setPendingRelease true) s
  else takeWake s

/-- R108: the release requests of a drain that entered the list: for each named group that is HOLDING or CLOSING, in
increasing group number. -/
def drainRequests (groups : BitVec 4) (s : State) : State :=
  match newest s with
  | none => s
  | some m =>
    let gs := ((groupsOf groups).filter (active s)).flatMap (reached s)
    testEpisodes gs (drainWake gs (gs.foldl (setEpisode (.mark m)) s))

/-! ## Triggers (R94 to R98) -/

/-- R95: the age timer starts where it is stopped. -/
def startAgeTimer (g : GroupIx) (s : State) : State :=
  let x := s.groups[g]
  setGroup g { x with ageTimer := some (x.ageTimer.getD s.timestamp) } s

/-- R95, R98: the group's HELD count has risen by 1: from 0 to 1 it starts the age timer, and to the line limit it makes a
release request. -/
def heldRose (g : GroupIx) (s : State) : State :=
  if s.groups[g].state = .holding then
    let s := if s.counts.groupHeld[g] = 1 then startAgeTimer g s else s
    let limit := s.groups[g].lineLimit.toNat
    if limit ≠ 0 ∧ s.counts.groupHeld[g] = limit then releaseRequest g s else s
  else s

/-- R94: the write count increases by 1, stopping at 65535. -/
def countWrite (n : BitVec 16) : BitVec 16 := if n == BitVec.allOnes 16 then n else n + 1

/-- R97: the report that raises the write count from V - 1 to V, in COUNT mode with V above 0. -/
def countFires (x : Group) : Bool :=
  x.relMode == .count && x.relValue != 0 && x.writeCount != BitVec.allOnes 16 && x.writeCount + 1 == x.relValue

/-- R94, R96, R97: a write accepted into the group is reported: the quiet timer restarts, the write count advances and
the count trigger is tested. Only a HOLDING group's record changes. -/
def writeReport (g : GroupIx) (s : State) : State :=
  let x := s.groups[g]
  if x.state = .holding then
    let t := setGroup g { x with quietTimer := some s.timestamp, writeCount := countWrite x.writeCount } s
    if countFires x then releaseRequest g t else t
  else s

/-! ## Pending releases and the halt (R102, R134) -/

/-- R102: every pending release returns to no at an entry to AWAKE, unless the release halt is in force. -/
def clearPendingReleases (s : State) : State :=
  if halted s then s
  else { s with groups := s.groups.map fun x => { x with pendingRelease := false } }

/-- R102: one group's pending release when the halt lifts. -/
def payPendingRelease (s : State) (g : GroupIx) : State :=
  if !s.groups[g].pendingRelease then s
  else if windowMode s && s.power.state == .asleep then s
  else if s.power.state == .awake then setPendingRelease false s g
  else setPendingRelease false (takeWake s) g

/-- R102, R121, R134: the release halt lifts: the wakes owed to pending releases are posted in group order, and active
pressure's wake cause stands from now. -/
def liftHalt (s : State) : State :=
  let s := (List.finRange Config.numGroups).foldl payPendingRelease s
  if s.pressure then takeWake s else s

/-- R163: a record is removed, and where the list held 6 records the halt lifts in the same transition. -/
def removeFaultAndLift (k : FaultIx) (s : State) : State :=
  let t := removeFault k s
  if halted s && !halted t then liftHalt t else t

/-! ## Leaving RELEASING (R21) -/

/-- R75: a WAIT_RELEASE read of the line after its entry went FREE or returned to HELD. -/
def readAfterRelease (l : LineAddr) (r : PendingRead) : PendingRead :=
  if lineOf r.address = l ∧ r.state = .waitRelease then { r with state := .ready } else r

/-- R75: the reads that waited on the line's entry go to READY. -/
def carryReads (l : LineAddr) (s : State) : State :=
  { s with reads := s.reads.map (readAfterRelease l) }

/-- The read waits in WAIT_RELEASE on the line's entry. -/
def waitsOnRelease (l : LineAddr) (r : PendingRead) : Bool :=
  lineOf r.address == l && r.state == .waitRelease

/-- A pending read is answered with an ERROR. -/
def refuseRead (c : ErrorCause) (s : State) (r : PendingRead) : State :=
  respond r.initiator r.tag (.error c) s

/-- R75: the reads that waited on an entry that went FAULTED are answered ERROR FAULTED_LINE and leave the list. -/
def refuseWaitingReads (l : LineAddr) (s : State) : State :=
  (s.reads.filter (waitsOnRelease l)).foldl (refuseRead .faultedLine)
    { s with reads := s.reads.filter fun r => !waitsOnRelease l r }

/-- R21, R103, R109: the group unit re-evaluates the group's episode and every drain that names the group. -/
def groupReport (g : GroupIx) (s : State) : State := testDrains g (testEpisode g s)

end Sys2Proof.Machine
end

