-- ==== Sys2Proof/Machine/Downstream.lean ====
section
/-! DEFINITION. Machine/Downstream.lean: the downstream arbiter's grant (6.4), completions (6.5), timeouts and quarantine
(6.6), and downstream messages of undefined kind (R195). -/

namespace Sys2Proof.Machine

/-! ## The arbiter (R114, R118, R122, R123) -/

/-- R122: a request presented to the arbiter. -/
inductive Presented where
  | read (r : PendingRead)
  | passRetry (p : PassRetry)
  | passNew (i : InitIx) (r : Request)
  | releaseRetry (e : EntryIx)
  | releaseNew (e : EntryIx)
  deriving DecidableEq, Repr

/-- R114: the slots that are BUSY or QUARANTINED. -/
def tagsInUse (s : State) : Nat := busySlots s + quarantinedSlots s

/-- A read of the given class and state. -/
def readIs (c : ReadClass) (st : ReadState) (r : PendingRead) : Bool := r.readClass == c && r.state == st

/-- R74, R122: the first presented read: URGENT before DEFERRABLE, RETRY_WAIT before READY, then list order. -/
def presentedRead (s : State) : Option PendingRead :=
  s.reads.find? (readIs .urgent .retryWait) <|> s.reads.find? (readIs .urgent .ready) <|>
    s.reads.find? (readIs .deferrable .retryWait) <|> s.reads.find? (readIs .deferrable .ready)

/-- The pass-through write that waits at the head of initiator i's queue. -/
def passHead (s : State) (i : InitIx) : Option (InitIx × Request) :=
  match s.initiators[i].head, s.initiators[i].queue with
  | .passThrough, r :: _ => some (i, r)
  | _, _ => none

/-- R122: the first presented pass-through write: retries by age of failure, then queue heads by initiator number. -/
def presentedPass (s : State) : Option Presented :=
  match s.passRetries with
  | p :: _ => some (.passRetry p)
  | [] => ((List.finRange Config.numInitiators).findSome? (passHead s)).map fun x => .passNew x.1 x.2

/-- R122, R133: the first presented release write: retries by age of failure, then the first candidate outside the
halt. -/
def presentedRelease (s : State) : Option Presented :=
  match s.releaseRetries with
  | e :: _ => some (.releaseRetry e)
  | [] => if halted s then none else (firstCandidate s).map .releaseNew

/-- R122, R123: the request that the next grant goes to. -/
def presented (s : State) : Option Presented :=
  let read := (presentedRead s).map Presented.read
  if s.pressure then presentedRelease s <|> read <|> presentedPass s
  else read <|> presentedPass s <|> presentedRelease s

/-- R115: the slot goes BUSY with the operation and its attempt, at the current timestamp. -/
def occupy (k : TagIx) (op : SlotOp) (attempt : Nat) (s : State) : State :=
  setSlot k (.busy op s.timestamp attempt) s

/-- The read of the list with this initiator and tag (R68: at most one). -/
def isReadOf (i : InitIx) (t : UpTag) (r : PendingRead) : Bool := r.initiator == i && r.tag == t

/-- Changes the read of an initiator and tag. -/
def updateRead (i : InitIx) (t : UpTag) (f : PendingRead → PendingRead) (s : State) : State :=
  { s with reads := s.reads.map fun r => if isReadOf i t r then f r else r }

/-- R76, R80: a granted read goes to ISSUED and its LINE_READ is sent. -/
def grantRead (k : TagIx) (r : PendingRead) (s : State) : State :=
  sendDown (.lineRead k (lineOf r.address))
    (updateRead r.initiator r.tag (fun r => { r with state := .issued, slot := some k })
      (occupy k (.read r.initiator r.tag) (r.attempts + 1) s))

/-- R115: the LINE_WRITE of a pass-through write. -/
def passMessage (k : TagIx) (w : PassWrite) : DownMessage :=
  .lineWrite k (lineOf w.address) w.mask (masked w.mask w.bytes)

/-- R127: a granted pass-through retry leaves the list. -/
def grantPassRetry (k : TagIx) (p : PassRetry) (s : State) : State :=
  sendDown (passMessage k p.write)
    (occupy k (.pass p.write) (p.failed + 1) { s with passRetries := s.passRetries.tail })

/-- R55: what the slot records of a pass-through write. -/
def passWriteOf (i : InitIx) (r : Request) : PassWrite where
  initiator := i
  tag := r.tag
  address := r.address
  mask := requestMask r
  bytes := requestBytes r

/-- R55: a granted pass-through write leaves its inbound queue at issue. -/
def grantPass (k : TagIx) (i : InitIx) (r : Request) (s : State) : State :=
  popHead i
    (sendDown (passMessage k (passWriteOf i r)) (occupy k (.pass (passWriteOf i r)) 1 s))

/-- R15, R115: the LINE_WRITE of an entry's release. -/
def releaseMessage (s : State) (k : TagIx) (e : EntryIx) : DownMessage :=
  .lineWrite k s.entries[e].line s.entries[e].mask (masked s.entries[e].mask s.entries[e].data)

/-- R124: a granted release retry leaves the list, with the same mask and bytes as before. -/
def grantReleaseRetry (k : TagIx) (e : EntryIx) (s : State) : State :=
  sendDown (releaseMessage s k e)
    (occupy k (.release e) (s.entries[e].attempts + 1) { s with releaseRetries := s.releaseRetries.tail })

/-- R124: a first issue takes the entry from HELD to RELEASING. -/
def grantRelease (k : TagIx) (e : EntryIx) (s : State) : State :=
  sendDown (releaseMessage s k e) (startRelease e (occupy k (.release e) 1 s))

/-- R115: the requester's part of a grant. -/
def grantTo (k : TagIx) (p : Presented) (s : State) : State :=
  match p with
  | .read r => grantRead k r s
  | .passRetry p => grantPassRetry k p s
  | .passNew i r => grantPass k i r s
  | .releaseRetry e => grantReleaseRetry k e s
  | .releaseNew e => grantRelease k e s

/-- R114: a downstream request may be issued: the power state is AWAKE and the tags in use are below the credit limit. -/
def mayGrant (s : State) : Bool :=
  s.power.state == .awake && tagsInUse s < s.regs.creditLimit.toNat

/-- R115, R122: one grant of the arbiter; none is made while nothing may be issued or nothing is presented. -/
def arbiterGrant (s : State) : State :=
  if mayGrant s then
    match presented s, lowestFreeSlot s with
    | some p, some k => settle (grantTo k p s)
    | _, _ => s
  else s

/-- GRANT (R115). -/
def execGrant (s : State) : Host.Outcome State Fault Refusal := .next (whileRunning arbiterGrant s)

/-! ## Outcomes of attempts -/

/-- R68: the read of an initiator and tag leaves the list. -/
def removeRead (i : InitIx) (t : UpTag) (s : State) : State :=
  { s with reads := s.reads.filter fun r => !isReadOf i t r }

/-- R77: the line returned, overlaid with the bytes of the line's HELD entry. -/
def returnedLine (s : State) (l : LineAddr) (returned : Line) : Line :=
  match lookup s l with
  | some e => if s.entries[e].state = .held then overlay s.entries[e].mask s.entries[e].data returned else returned
  | none => returned

/-- R77, R78: the read is answered DATA from the returned line and leaves the list. -/
def readDone (i : InitIx) (t : UpTag) (returned : Line) (s : State) : State :=
  match s.reads.find? (isReadOf i t) with
  | some r =>
    respond i t (.data (bytesAt r.address r.length.toNat (returnedLine s (lineOf r.address) returned)))
      (removeRead i t s)
  | none => s

/-- R79: a failed attempt of a read: RETRY_WAIT while attempts are left, else ERROR MEMORY and READ_FAILED. -/
def readFailed (i : InitIx) (t : UpTag) (s : State) : State :=
  match s.reads.find? (isReadOf i t) with
  | some r =>
    let s := countRetry s
    if r.attempts < s.regs.rdRetry.toNat then
      updateRead i t (fun r => { r with state := .retryWait, attempts := r.attempts + 1, slot := none }) s
    else raise .readFailed (respond i t (.error .memory) (removeRead i t s))
  | none => s

/-- R56: a pass-through write is answered DONE. -/
def passDone (w : PassWrite) (s : State) : State := respond w.initiator w.tag .done s

/-- R57: a failed attempt of a pass-through write, the slot's attempt-th: the retry list, or ERROR MEMORY. -/
def passFailed (w : PassWrite) (attempt : Nat) (s : State) : State :=
  let s := countRetry s
  if attempt - 1 < s.regs.wrRetry.toNat then
    { s with passRetries := s.passRetries ++ [{ write := w, failed := attempt }] }
  else respond w.initiator w.tag (.error .memory) s

/-- R18, R21, R49: the release of entry e completes: the entry goes FREE, its waiters are answered, the line's waiting
reads become misses, the group unit is told, and STALL waits end. DESIGN CHOICE notes/assumptions/35.md: the pressure test
follows, and finds no STALL write waiting, so pressure may end before the write's re-decision. -/
def releaseDone (e : EntryIx) (s : State) : State :=
  let x := s.entries[e]
  if x.state = .releasing then
    groupReport x.group (endStalls (carryReads x.line (releaseToFree e s)))
  else s

/-- R19, R21: an exhausted release with room in the fault list: the entry goes FAULTED. -/
def faultRelease (e : EntryIx) (k : FaultIx) (cause : FailCause) (s : State) : State :=
  let x := s.entries[e]
  groupReport x.group (refuseWaitingReads x.line (releaseToFaulted e k cause s))

/-- R20, R21, R98: an exhausted release that meets a full fault list: the entry returns to HELD. -/
def returnRelease (e : EntryIx) (s : State) : State :=
  let x := s.entries[e]
  groupReport x.group (heldRose x.group (carryReads x.line (releaseToHeld e s)))

/-- R17, R126: a failed attempt of a release: a release retry while attempts are left, else FAULTED or back to HELD. -/
def releaseFailed (e : EntryIx) (cause : FailCause) (s : State) : State :=
  let x := s.entries[e]
  if x.state = .releasing then
    let s := countRetry s
    if x.attempts < s.regs.wrRetry.toNat then
      setEntry e { x with attempts := x.attempts + 1, lastCause := some cause }
        { s with releaseRetries := s.releaseRetries ++ [e] }
    else
      let s := setEntry e { x with lastCause := some cause } s
      match if halted s then none else lowestFreeFault s with
      | some k => faultRelease e k cause s
      | none => returnRelease e s
  else s

/-- R79, R57, R126: a slot's operation is handed to its owner as a failed attempt. -/
def attemptFailed (op : SlotOp) (attempt : Nat) (cause : FailCause) (s : State) : State :=
  match op with
  | .read i t => readFailed i t s
  | .pass w => passFailed w attempt s
  | .release e => releaseFailed e cause s

/-! ## Completions (R125, R130, R131) -/

/-- A completion's kind (10.2). -/
inductive CompletionKind where
  | ok | poison | fail
  deriving DecidableEq, Repr

/-- R125: the completion carries the bytes its slot's kind calls for: 64 on a COMPLETE_OK for a read, none on a write
completion. A POISON or FAIL for a read fails the read's attempt whatever it carries. -/
def byteCountOk (op : SlotOp) (bytes : List Byte) : Bool :=
  match op with
  | .read .. => bytes.length == Config.lineBytes
  | .pass _ | .release _ => bytes.isEmpty

/-- R125: the kind a completion is taken as. -/
def takenAs (kind : CompletionKind) (op : SlotOp) (bytes : List Byte) : CompletionKind :=
  if byteCountOk op bytes then kind else .fail

/-- R125: an operation that its completion ends well is handed to its owner. -/
def attemptOk (op : SlotOp) (bytes : List Byte) (s : State) : State :=
  match op with
  | .read i t =>
    match lineOfList bytes with
    | some l => readDone i t l s
    | none => readFailed i t s
  | .pass w => passDone w s
  | .release e => releaseDone e s

/-- R125: the completion of a BUSY slot's attempt is handed to the owner of its operation. -/
def handOver (kind : CompletionKind) (op : SlotOp) (attempt : Nat) (bytes : List Byte) (s : State) : State :=
  match takenAs kind op bytes with
  | .ok => attemptOk op bytes s
  | .poison => attemptFailed op attempt .poison s
  | .fail => attemptFailed op attempt .fail s

/-- R125, R130, R131: a completion arrives for slot k: handed over, late or unsolicited. -/
def complete (kind : CompletionKind) (k : TagIx) (bytes : List Byte) (s : State) : State :=
  match s.slots[k] with
  | .busy op _ attempt => settle (handOver kind op attempt bytes (setSlot k .free s))
  | .quarantined .. => settle (raise .lateCompletion (setSlot k .free s))
  | .free => raise .protocol s

/-- COMPLETE_OK (R125). -/
def execCompleteOk (k : TagIx) (bytes : List Byte) (s : State) : Host.Outcome State Fault Refusal :=
  .next (whileRunning (complete .ok k bytes) s)

/-- COMPLETE_POISON (R125). -/
def execCompletePoison (k : TagIx) (bytes : List Byte) (s : State) : Host.Outcome State Fault Refusal :=
  .next (whileRunning (complete .poison k bytes) s)

/-- COMPLETE_FAIL (R125). -/
def execCompleteFail (k : TagIx) (bytes : List Byte) (s : State) : Host.Outcome State Fault Refusal :=
  .next (whileRunning (complete .fail k bytes) s)

/-- UNDEFINED_DOWNSTREAM_MESSAGE (R195): kinds 3 and 7 are discarded and raise PROTOCOL; another kind is no message of
this row. -/
def execUndefinedDownstreamMessage (kind : BitVec 3) (s : State) : Host.Outcome State Fault Refusal :=
  .next (whileRunning (fun s => if kind == 3 || kind == 7 then raise .protocol s else s) s)

/-! ## Timeouts (R128) -/

/-- R113: the kind of an operation. -/
def kindOf : SlotOp → SlotKind
  | .read .. => .read
  | .pass _ => .pass
  | .release _ => .release

/-- R128: a slot issued at a timestamp has reached the response limit. A lowered limit is in force from the next tick. -/
def timedOut (s : State) (issued : Timestamp) : Bool :=
  s.regs.respLimit.toNat ≤ elapsed s issued && s.respLimitSeen.toNat ≤ elapsed s issued

/-- R128: slot k times out: it goes QUARANTINED and its operation fails with cause TIMEOUT. -/
def timeoutSlot (k : TagIx) (s : State) : State :=
  match s.slots[k] with
  | .busy op issued attempt =>
    if timedOut s issued then
      settle (attemptFailed op attempt .timeout (setSlot k (.quarantined (kindOf op) issued attempt) s))
    else s
  | .free | .quarantined .. => s

/-- SLOT_TIMEOUT (R128). -/
def execSlotTimeout (k : TagIx) (s : State) : Host.Outcome State Fault Refusal :=
  .next (whileRunning (timeoutSlot k) s)

end Sys2Proof.Machine
end

