-- ==== Sys2Proof/Machine/PowerControl.lean ====
section
/-! DEFINITION. Machine/PowerControl.lean: the sleep and wake handshake, entry to UNAVAILABLE, window boundaries, OPP and
the deferral limit (chapters 4 and 7). -/

namespace Sys2Proof.Machine

/-! ## Entry to AWAKE (R73, R102, R139) -/

/-- R73: where a DEFERRED read goes at an entry to AWAKE. -/
def wokenRead (s : State) (r : PendingRead) : PendingRead :=
  if r.state = .deferred then
    { r with state := if lineIn s (lineOf r.address) .releasing then .waitRelease else .ready }
  else r

/-- R73: every DEFERRED read leaves DEFERRED, and the list order is kept. That the reads move inside the transition that
enters AWAKE, and so before any release start in AWAKE, is the model's choice (DESIGN CHOICE, notes/assumptions/34.md). -/
def wakeReads (s : State) : State := { s with reads := s.reads.map (wokenRead s) }

/-- R143, R147: what every entry to AWAKE does in the other blocks, in the same transition (DESIGN CHOICE,
notes/assumptions/34.md). -/
def enterAwake (s : State) : State := settle (clearPendingReleases (wakeReads s))

/-! ## Going to sleep (R141 to R144, R157) -/

/-- R141, R157: SLEEP_REQUEST is sent and the power state goes to ENTERING with the noted wake at no. -/
def requestSleep (owed : Bool) (s : State) : State :=
  sendDown .sleepRequest
    (setPower { s.power with state := .entering, sleepCountdown := none, notedWake := false, cycleOwed := owed } s)

/-- R141: the sleep countdown has run out in AWAKE with the idle condition holding. -/
def sleepDue (s : State) : Bool :=
  s.power.state == .awake && s.power.sleepCountdown == some 0 && idleCondition s

/-- SLEEP_COUNTDOWN_EXPIRY (R141). -/
def execSleepCountdownExpiry (s : State) : Host.Outcome State Fault Refusal :=
  .next (whileRunning (fun s => if sleepDue s then requestSleep s.power.cycleOwed s else s) s)

/-- R129: a QUARANTINED slot goes FREE. -/
def unquarantine (x : Slot) : Slot := if x.isQuarantined then .free else x

/-- R129: every QUARANTINED slot goes FREE. -/
def freeQuarantined (s : State) : State := { s with slots := s.slots.map unquarantine }

/-- R142: a wake is wanted after a SLEEP_ACCEPT. -/
def wakeWanted (s : State) : Bool := s.power.notedWake || s.power.cycleOwed || standingCause s

/-- R142: SLEEP_ACCEPT in ENTERING. -/
def goAsleep (s : State) : State :=
  let t := countSleep (freeQuarantined (setPower { s.power with state := .asleep } s))
  let u := setPower { t.power with notedWake := false, cycleOwed := false } t
  if wakeWanted t then wakeAttempt 1 u else u

/-- R142, R144: SLEEP_ACCEPT; outside ENTERING it is ignored and raises PROTOCOL. -/
def takeSleepAccept (s : State) : State :=
  if s.power.state = .entering then goAsleep s else raise .protocol s

/-- SLEEP_ACCEPT (R142). -/
def execSleepAccept (s : State) : Host.Outcome State Fault Refusal := .next (whileRunning takeSleepAccept s)

/-- R143, R144: SLEEP_DECLINE; outside ENTERING it is ignored and raises PROTOCOL. -/
def takeSleepDecline (s : State) : State :=
  if s.power.state = .entering then
    enterAwake (setPower { s.power with state := .awake, notedWake := false, cycleOwed := false } s)
  else raise .protocol s

/-- SLEEP_DECLINE (R143). -/
def execSleepDecline (s : State) : Host.Outcome State Fault Refusal := .next (whileRunning takeSleepDecline s)

/-! ## Waking (R147, R148) -/

/-- R147, R144: WAKE_READY; outside WAKING it is ignored and raises PROTOCOL. -/
def takeWakeReady (s : State) : State :=
  if s.power.state = .waking then
    enterAwake (countWake (setPower { s.power with state := .awake, attempt := 0, wakeTimer := none } s))
  else raise .protocol s

/-- WAKE_READY (R147). -/
def execWakeReady (s : State) : Host.Outcome State Fault Refusal := .next (whileRunning takeWakeReady s)

/-! ## Entry to UNAVAILABLE (R53, R62, R82, R110, R149) -/

/-- R53: every durable waiter of every HELD entry is answered ERROR UNAVAILABLE, entry by entry. -/
def refuseAllWaiters (s : State) : State := (List.finRange Config.numEntries).foldl refuseWaiters s

/-- R82: every pending read is answered ERROR UNAVAILABLE in list order, and the list is emptied. -/
def refuseAllReads (s : State) : State := s.reads.foldl (refuseRead .unavailable) { s with reads := [] }

/-- R110: a drain record is answered ERROR UNAVAILABLE. -/
def refuseDrain (s : State) (d : Drain) : State := respond d.initiator d.tag (.error .unavailable) s

/-- R110: every drain record is answered ERROR UNAVAILABLE in list order, and the list is emptied. -/
def refuseAllDrains (s : State) : State := s.drains.foldl refuseDrain { s with drains := [] }

/-- R62: a pass-through write that waits at initiator i's head is answered ERROR UNAVAILABLE and leaves its queue. -/
def refusePassHead (s : State) (i : InitIx) : State :=
  match s.initiators[i].head, s.initiators[i].queue with
  | .passThrough, r :: _ => answerHead i r.tag (.error .unavailable) s
  | _, _ => s

/-- R62: every pass-through write that waits at its head, in initiator order. -/
def refuseAllPassHeads (s : State) : State := (List.finRange Config.numInitiators).foldl refusePassHead s

/-- R149: entry to UNAVAILABLE: each block refuses the work that waits on the memory, and the waits of R60, R65 and R106
end, those under STALL before the pressure test (notes/assumptions/35.md). -/
def enterUnavailable (s : State) : State :=
  let s := setPower { s.power with state := .unavailable, wakeTimer := none } s
  settle (endStalls (refuseAllPassHeads (refuseAllDrains (refuseAllReads (refuseAllWaiters s)))))

/-- R148: the wake timer has run out in WAKING. -/
def wakeTimerDue (s : State) : Bool := s.power.state == .waking && s.power.wakeTimer == some 0

/-- R148: the wake is retried, or at attempt 3 the power state goes to UNAVAILABLE. -/
def wakeTimeout (s : State) : State :=
  if s.power.attempt < Config.maxWakeAttempts then
    wakeAttempt (s.power.attempt + 1) (raise .wakeRetry s)
  else enterUnavailable s

/-- WAKE_TIMER_EXPIRY (R148). -/
def execWakeTimerExpiry (s : State) : Host.Outcome State Fault Refusal :=
  .next (whileRunning (fun s => if wakeTimerDue s then wakeTimeout s else s) s)

/-! ## Window mode (R152, R153) -/

/-- R153: the window countdown that a period starts: the period times 100 µs, or stopped for 0. -/
def windowStart (period : BitVec 16) : Option Nat := if period == 0 then none else some (period.toNat * 100)

/-- R153: the staged period becomes current and the countdown starts from it. -/
def makeStagedCurrent (s : State) : State :=
  setPower { s.power with current := s.power.staged, windowCountdown := windowStart s.power.staged } s

/-- R153: step 1 of a boundary posts a wake cause for pending releases outside the halt. -/
def boundaryWake (s : State) : State :=
  if (s.groups.any fun x => x.pendingRelease) && !halted s then takeWake s else s

/-- WINDOW_BOUNDARY (R153), once the window countdown has run out. -/
def execWindowBoundary (s : State) : Host.Outcome State Fault Refusal :=
  .next (whileRunning
    (fun s => if s.power.windowCountdown == some 0 then makeStagedCurrent (boundaryWake s) else s) s)

/-! ## The deferral limit and OPP (R72, R155) -/

/-- DEFER_LIMIT_REACHED (R72): the DEFERRED reads stand as a wake cause once the oldest has waited DEFER_LIMIT. -/
def execDeferLimitReached (s : State) : Host.Outcome State Fault Refusal :=
  .next (whileRunning (fun s => if deferLimitMet s then takeWake s else s) s)

/-- OPP_CHANGE (R155): a change of the sampled level is followed by the pressure test. -/
def execOppChange (level : Bool) (s : State) : Host.Outcome State Fault Refusal :=
  .next (whileRunning (fun s => if s.opp = level then s else settle { s with opp := level }) s)

end Sys2Proof.Machine
end

