-- ==== Sys2Proof/Machine/Link.lean ====
section
/-! DEFINITION. Machine/Link.lean: the management link (9.1): frames, the effect point, and how a command's judgement is
answered. -/

namespace Sys2Proof.Machine

/-- What a command's judgement gives: the status, the data bytes and the state its effect leaves. -/
structure Answer where
  status : Status
  data : List Byte
  after : State

/-- A command answered OK with no data. -/
def ok (t : State) : Answer := { status := .ok, data := [], after := t }

/-- A command answered OK with data; it changes nothing. -/
def okData (bs : List Byte) (s : State) : Answer := { status := .ok, data := bs, after := s }

/-- A command answered BUSY, REFUSED, BAD_ARG or UNKNOWN. -/
def denied (st : Status) (s : State) : Answer := { status := st, data := [], after := s }

/-- R177: the data bytes shifted: n bytes of zero when the status is not OK. -/
def answerData (n : Nat) (a : Answer) : List Byte := if a.status = .ok then a.data else List.replicate n 0

/-- R177: a command not answered OK changes no state of the part. -/
def answerState (a : Answer) (s : State) : State := if a.status = .ok then a.after else s

/-- R175, R176: the frame record after the effect point: the turnaround byte is next, and the response is captured. Zero
went out with the command byte and with each argument byte. -/
def answeredFrame (command : Byte) (args : List Byte) (n : Nat) (a : Answer) : Frame where
  phase := .turnaround
  command := some command
  args := args
  response := statusCode a.status :: answerData n a
  sent := List.replicate (args.length + 1) 0

/-- Replaces the frame record. -/
def setFrame (f : Option Frame) (s : State) : State := { s with frame := f }

/-- R175: a frame is in progress whose command byte has not been taken. -/
def takesCommand (s : State) : Bool :=
  running s &&
    match s.frame with
    | some f => f.phase == .command
    | none => false

/-- R176: at its effect point a command is judged and carried out in one transition, and its response is captured. Where
no frame waits for a command byte the link takes no byte, and nothing happens. -/
def atEffectPoint (command : Byte) (args : List Byte) (n : Nat) (judge : State → Answer) (s : State) : State :=
  if takesCommand s then
    setFrame (some (answeredFrame command args n (judge s))) (answerState (judge s) s)
  else s

/-- A command of 10.4 with its argument bytes. -/
def manage (c : CommandName) (args : List Byte) (judge : State → Answer) (s : State) : State :=
  atEffectPoint (commandByte c) args (dataBytes c) judge s

/-- R175: chip select goes low. Outside reset a frame starts; a chip select that is low already has no falling edge. -/
def chipSelectFalls (s : State) : State :=
  if s.chipSelectLow then s
  else { s with chipSelectLow := true, frame := if running s then some .started else none }

/-- R175, R176: chip select goes high, and the frame record is discarded. -/
def chipSelectRises (s : State) : State := { s with chipSelectLow := false, frame := none }

/-- FRAME_START (R175). -/
def execFrameStart (s : State) : Host.Outcome State Fault Refusal := .next (chipSelectFalls s)

/-- FRAME_END (R176). -/
def execFrameEnd (s : State) : Host.Outcome State Fault Refusal := .next (chipSelectRises s)

/-- UNKNOWN_COMMAND (R177): a command byte that names no command is answered UNKNOWN with no data. A byte that names a
command is not this row's. -/
def execUnknownCommand (b : Byte) (s : State) : Host.Outcome State Fault Refusal :=
  .next (if commandOfByte b = none then atEffectPoint b [] 0 (denied .unknown) s else s)

end Sys2Proof.Machine
end

