-- ==== Sys2Proof/Machine/Commands.lean ====
section
/-! DEFINITION. Machine/Commands.lean: the management commands but the register window's (9.2): attention, regions,
groups, power, faults, inspection and CLEAR. -/

namespace Sys2Proof.Machine

/-! ## Attention and counters (R168, R169, R172) -/

/-- R169: TAKE captures the status and clears the event causes that the capture shows as set. -/
def judgeTake (s : State) : Answer :=
  { status := .ok, data := bytesBE 2 (attention s).toNat, after := { s with events := 0 } }

/-- R168: ACK clears the named event causes that are set. -/
def judgeAck (causes : BitVec 16) (s : State) : Answer :=
  if namesNonCause causes then denied .badArg s else ok { s with events := s.events &&& ~~~causes }

/-- R172: CLEAR_COUNTERS. -/
def judgeClearCounters (s : State) : Answer := ok { s with counters := .zero }

/-! ## The region table (R37 to R40) -/

/-- R40: REGION_READ. -/
def judgeRegionRead (index : Byte) (s : State) : Answer :=
  match regionArg index with
  | some k => okData (regionBytes s.regions[k]) s
  | none => denied .badArg s

/-- R38: the region is valid with policy HOLD and names a group in HOLDING or CLOSING. -/
def activeHold (s : State) (x : Region) : Bool :=
  x.valid &&
    match x.policy with
    | .hold g _ => active s g
    | .pass | .block => false

/-- R37, R38: REGION_WRITE. -/
def judgeRegionWrite (index : Byte) (entry : BitVec 64) (s : State) : Answer :=
  match regionArg index, regionOf entry with
  | some k, some x =>
    if activeHold s s.regions[k] || activeHold s x then denied .busy s
    else ok { s with regions := s.regions.set k x }
  | _, _ => denied .badArg s

/-! ## Groups (R90, R91, R93, R99) -/

/-- R90: the group record at its opening. -/
def openedGroup (x : Group) : Group :=
  { x with
    state := .holding, ageTimer := none, quietTimer := none, writeCount := 0, episode := .absent,
    pendingRelease := false }

/-- R90, R179: GROUP_OPEN. -/
def judgeGroupOpen (group : Byte) (s : State) : Answer :=
  match groupArg group with
  | none => denied .badArg s
  | some g => if active s g then denied .refused s else ok (setGroup g (openedGroup s.groups[g]) s)

/-- R91: the episode of a close: every entry of the group that exists is covered, and none when the counter is 0. -/
def closeEpisode (s : State) : Episode :=
  match newest s with
  | some m => .mark m
  | none => .noMark

/-- R91: the group goes to CLOSING: its timers stop and its episode covers every entry; then the end test is taken. -/
def closeGroup (g : GroupIx) (s : State) : State :=
  let x := { s.groups[g] with state := .closing, ageTimer := none, quietTimer := none, episode := closeEpisode s }
  testEpisode g (requestWake [g] (setGroup g x s))

/-- R91, R179: GROUP_CLOSE. -/
def judgeGroupClose (group : Byte) (s : State) : Answer :=
  match groupArg group with
  | none => denied .badArg s
  | some g => if s.groups[g].state = .holding then ok (settle (closeGroup g s)) else denied .refused s

/-- R93: the group owns a FAULTED entry. -/
def ownsFaulted (s : State) (g : GroupIx) : Bool := s.entries.any fun x => x.state == .faulted && x.group == g

/-- R93: the group record after GROUP_RESET. -/
def resetGroup (x : Group) : Group := { x with state := .idle, pendingRelease := false }

/-- R93, R179: GROUP_RESET. -/
def judgeGroupReset (group : Byte) (s : State) : Answer :=
  match groupArg group with
  | none => denied .badArg s
  | some g =>
    if s.groups[g].state = .closed && !ownsFaulted s g then ok (setGroup g (resetGroup s.groups[g]) s)
    else denied .refused s

/-- R99: the request of one named group; a group that is not HOLDING or has no HELD entry is passed over. -/
def namedRequest (s : State) (g : GroupIx) : State := if holdingWithHeld s g then releaseRequest g s else s

/-- R99: the release requests of the named groups, in increasing group number. -/
def releaseGroups (groups : BitVec 4) (s : State) : State := settle ((groupsOf groups).foldl namedRequest s)

/-- R99, R179: RELEASE. -/
def judgeRelease (groups : Byte) (s : State) : Answer :=
  if 16 ≤ groups.toNat then denied .badArg s else ok (releaseGroups (groups.setWidth 4) s)

/-! ## Power (R151, R156, R157) -/

/-- R156: in AWAKE a running sleep countdown restarts from SLEEP_DELAY. -/
def restartCountdown (s : State) : State :=
  setPower { s.power with sleepCountdown := s.power.sleepCountdown.map fun _ => s.regs.sleepDelay.toNat } s

/-- R156: WAKE: a wake cause; in AWAKE a running sleep countdown restarts. -/
def softwareWake (s : State) : State := if s.power.state = .awake then restartCountdown s else takeWake s

/-- R156. -/
def judgeWake (s : State) : Answer := if unavailable s then denied .refused s else ok (softwareWake s)

/-- R157: CYCLE. -/
def judgeCycle (s : State) : Answer :=
  if s.power.state == .awake && idleCondition s then ok (requestSleep true s) else denied .busy s

/-- R151: RECOVER. -/
def judgeRecover (s : State) : Answer := if unavailable s then ok (wakeAttempt 1 s) else denied .refused s

/-! ## Faults (R22, R23, R163, R164) -/

/-- R164: FAULT_READ. -/
def judgeFaultRead (slot : Byte) (s : State) : Answer :=
  match faultArg slot with
  | none => denied .badArg s
  | some k =>
    match s.faults[k] with
    | some f => okData (faultBytes k f s.entries[f.entry].data) s
    | none => denied .refused s

/-- The record of a FAULTED entry is removed from the fault list (R22, R23). -/
def removeRecordOf (e : EntryIx) (s : State) : State :=
  match s.entries[e].faultSlot with
  | some k => removeFaultAndLift k s
  | none => s

/-- R22, R95, R98: after re-entry the group unit sees the HELD count rise, and a CLOSING group makes a release request. -/
def reportReentry (g : GroupIx) (s : State) : State :=
  if s.groups[g].state = .closing then releaseRequest g s else heldRose g s

/-- R22: FAULT_RETRY of a FAULTED entry: its record goes, it re-enters as HELD, and the re-entry is a wake cause. -/
def retryFault (e : EntryIx) (s : State) : State :=
  let g := s.entries[e].group
  settle (reportReentry g (takeWake (reenter e (removeRecordOf e s))))

/-- R163: FAULT_RETRY. -/
def judgeFaultRetry (entry : Byte) (s : State) : Answer :=
  match entryArg entry with
  | none => denied .badArg s
  | some e =>
    if s.entries[e].state ≠ .faulted then denied .refused s
    else if !active s s.entries[e].group then denied .refused s
    else if s.seqCounter == topSeq then denied .busy s
    else ok (retryFault e s)

/-- R23, R49: FAULT_DISCARD of a FAULTED entry: its record goes, it is freed, and STALL waits end, before the
pressure test (notes/assumptions/35.md). -/
def discardFault (e : EntryIx) (s : State) : State := settle (endStalls (discard e (removeRecordOf e s)))

/-- R163: FAULT_DISCARD. -/
def judgeFaultDiscard (entry : Byte) (s : State) : Answer :=
  match entryArg entry with
  | none => denied .badArg s
  | some e => if s.entries[e].state = .faulted then ok (discardFault e s) else denied .refused s

/-! ## Inspection (R180, R181, R198) -/

/-- R181: ENTRY_PEEK. -/
def judgeEntryPeek (entry : Byte) (s : State) : Answer :=
  match entryArg entry with
  | none => denied .badArg s
  | some e => okData (entryBytes s.entries[e]) s

/-- R198: the mark a group's status shows: 0 with no episode. -/
def shownMark : Episode → Nat
  | .mark m => m.toNat
  | .noMark | .absent => 0

/-- R180: the number of fault records that name the group. -/
def groupFaults (s : State) (g : GroupIx) : Nat :=
  s.faults.countP fun
    | some f => f.group == g
    | none => false

/-- 10.5: the ten bytes of a group in the status record. -/
def groupBytes (s : State) (g : GroupIx) : List Byte :=
  let x := s.groups[g]
  [byte (groupStateCode x.state), byte (bit (x.episode != .absent) + 4 * bit x.pendingRelease)] ++
  bytesBE 6 (shownMark x.episode) ++ [byte s.counts.groupHeld[g], byte (groupFaults s g)]

/-- R198: the attempt reads 0 outside WAKING and UNAVAILABLE. -/
def shownAttempt (s : State) : Nat :=
  if s.power.state = .waking ∨ s.power.state = .unavailable then s.power.attempt else 0

/-- R180, R198: the time elapsed since the oldest drain's arrival; 0 while the list is empty. -/
def drainAge (s : State) : Nat :=
  match s.drains with
  | d :: _ => elapsed s d.arrival
  | [] => 0

/-- R198: the fault record slots in addition order, 0xFF beyond the number of records. -/
def faultOrderBytes (s : State) : List Byte :=
  (List.range Config.numFaults).map fun n => ((s.faultOrder.map fun k => byte k.val)[n]?).getD 0xFF

/-- R180, 10.5: the 75 bytes of the status record. -/
def statusBytes (s : State) : List Byte :=
  [byte (powerCode s.power.state), byte (shownAttempt s)] ++ bytesBE 2 s.power.current.toNat ++
  [byte (bit s.opp + 2 * bit s.pressure + 4 * bit (halted s))] ++
  (List.finRange Config.numGroups).flatMap (groupBytes s) ++
  [byte s.counts.held, byte s.counts.releasing, byte s.counts.faulted] ++ bytesBE 6 s.seqCounter.toNat ++
  [byte (busySlots s), byte (quarantinedSlots s), byte s.reads.length, byte (deferredReads s).length,
    byte s.drains.length] ++
  bytesBE 4 (drainAge s) ++ [byte s.faultOrder.length] ++ faultOrderBytes s ++
  [byte (bit (halted s) + 2 * bit (unavailable s) + 4 * bit (tagsStuck s))] ++ bytesBE 4 s.timestamp.toNat

/-- R180: STATUS. -/
def judgeStatus (s : State) : Answer := okData (statusBytes s) s

/-! ## CLEAR (R184 to R186) -/

/-- R184: the conditions under which CLEAR is accepted. -/
def clearAllowed (s : State) : Bool :=
  (s.groups.all fun x => x.state == .idle) && (s.entries.all fun x => x.state == .free) &&
    !s.slots.any Slot.isBusy && s.reads.isEmpty && s.drains.isEmpty

/-- R185: what an accepted CLEAR resets; R120: pressure is inactive after it. -/
def clearHistory (s : State) : State :=
  { s with
    counters := .zero
    events := 0
    timestamp := 0
    seqCounter := 0
    pressure := false
    resetRecord := { cause := .clear, lostLines := 0 } }

/-- R185, R186: an accepted CLEAR: history cleared, QUARANTINED slots freed, the window restarted, STALL waits ended. -/
def clearPart (s : State) : State := settle (endStalls (makeStagedCurrent (freeQuarantined (clearHistory s))))

/-- R184: CLEAR. -/
def judgeClear (s : State) : Answer := if clearAllowed s then ok (clearPart s) else denied .busy s

/-! ## The meanings -/

/-- TAKE (R169). -/
def execTake (s : State) : Host.Outcome State Fault Refusal := .next (manage .take [] judgeTake s)

/-- ACK (R168). -/
def execAck (causes : BitVec 16) (s : State) : Host.Outcome State Fault Refusal :=
  .next (manage .ack (bytesBE 2 causes.toNat) (judgeAck causes) s)

/-- REGION_READ (R40). -/
def execRegionRead (index : Byte) (s : State) : Host.Outcome State Fault Refusal :=
  .next (manage .regionRead [index] (judgeRegionRead index) s)

/-- REGION_WRITE (R37, R38). -/
def execRegionWrite (index : Byte) (entry : BitVec 64) (s : State) : Host.Outcome State Fault Refusal :=
  .next (manage .regionWrite (index :: bytesBE 8 entry.toNat) (judgeRegionWrite index entry) s)

/-- GROUP_OPEN (R90). -/
def execGroupOpen (group : Byte) (s : State) : Host.Outcome State Fault Refusal :=
  .next (manage .groupOpen [group] (judgeGroupOpen group) s)

/-- GROUP_CLOSE (R91). -/
def execGroupClose (group : Byte) (s : State) : Host.Outcome State Fault Refusal :=
  .next (manage .groupClose [group] (judgeGroupClose group) s)

/-- GROUP_RESET (R93). -/
def execGroupReset (group : Byte) (s : State) : Host.Outcome State Fault Refusal :=
  .next (manage .groupReset [group] (judgeGroupReset group) s)

/-- RELEASE (R99). -/
def execRelease (groups : Byte) (s : State) : Host.Outcome State Fault Refusal :=
  .next (manage .release [groups] (judgeRelease groups) s)

/-- WAKE (R156). -/
def execWake (s : State) : Host.Outcome State Fault Refusal := .next (manage .wake [] judgeWake s)

/-- CYCLE (R157). -/
def execCycle (s : State) : Host.Outcome State Fault Refusal := .next (manage .cycle [] judgeCycle s)

/-- RECOVER (R151). -/
def execRecover (s : State) : Host.Outcome State Fault Refusal := .next (manage .recover [] judgeRecover s)

/-- FAULT_READ (R164). -/
def execFaultRead (slot : Byte) (s : State) : Host.Outcome State Fault Refusal :=
  .next (manage .faultRead [slot] (judgeFaultRead slot) s)

/-- FAULT_RETRY (R22, R163). -/
def execFaultRetry (entry : Byte) (s : State) : Host.Outcome State Fault Refusal :=
  .next (manage .faultRetry [entry] (judgeFaultRetry entry) s)

/-- FAULT_DISCARD (R23, R163). -/
def execFaultDiscard (entry : Byte) (s : State) : Host.Outcome State Fault Refusal :=
  .next (manage .faultDiscard [entry] (judgeFaultDiscard entry) s)

/-- ENTRY_PEEK (R181). -/
def execEntryPeek (entry : Byte) (s : State) : Host.Outcome State Fault Refusal :=
  .next (manage .entryPeek [entry] (judgeEntryPeek entry) s)

/-- STATUS (R180). -/
def execStatus (s : State) : Host.Outcome State Fault Refusal := .next (manage .status [] judgeStatus s)

/-- CLEAR_COUNTERS (R172). -/
def execClearCounters (s : State) : Host.Outcome State Fault Refusal :=
  .next (manage .clearCounters [] judgeClearCounters s)

/-- CLEAR (R185). -/
def execClear (s : State) : Host.Outcome State Fault Refusal := .next (manage .clear [] judgeClear s)

end Sys2Proof.Machine
end

