-- ==== Sys2Proof/Machine/Registers.lean ====
section
/-! DEFINITION. Machine/Registers.lean: the register window (9.6): READ_REG, WRITE_REG and the registers whose writes
have behaviour of their own. -/

namespace Sys2Proof.Machine

/-! ## The checks of a register's own rule (R188 step 4) -/

/-- R119: the marks after a write keep LOW_MARK below HIGH_MARK and OPP_MARK at or below HIGH_MARK. -/
def marksConsistent (high low opp : Nat) : Bool := low < high && opp ≤ high

/-- R188, 9.6: the value passes the range and consistency checks of the register. -/
def inRange (s : State) (r : Register) (v : Nat) : Bool :=
  match r with
  | .tickDiv => 20 ≤ v && v ≤ 250
  | .fullPolicy | .relMode _ => v ≤ 1
  | .deferCount => 1 ≤ v && v ≤ 12
  | .rdRetry | .wrRetry => v ≤ 3
  | .creditLimit => 1 ≤ v && v ≤ 8
  | .respLimit | .wakeLimit => 1 ≤ v && v ≤ 1023
  | .highMark => 1 ≤ v && v ≤ 48 && marksConsistent v s.regs.lowMark.toNat s.regs.oppMark.toNat
  | .lowMark => v ≤ 47 && marksConsistent s.regs.highMark.toNat v s.regs.oppMark.toNat
  | .oppMark => 1 ≤ v && v ≤ 48 && marksConsistent s.regs.highMark.toNat s.regs.lowMark.toNat v
  | .lineLimit _ => v ≤ 48
  | .attnEnable => !namesNonCause (BitVec.ofNat 16 v)
  | .deferLimit | .sleepDelay | .windowPeriod | .ageLimit _ | .relValue _ | .companions _ => true
  | .id | .attnStatus | .wakes | .sleeps | .fullHits | .throughWrites | .retries | .discardedLines
  | .resetRecord => false

/-- R86, R189: a group is HOLDING or CLOSING. -/
def anyActive (s : State) : Bool := (List.finRange Config.numGroups).any (active s)

/-- R86, R89, R189: the state check answers BUSY. -/
def writeBusy (s : State) : Register → Bool
  | .tickDiv => anyActive s
  | .ageLimit g | .relMode g | .relValue g | .lineLimit g | .companions g => s.groups[g].state != .idle
  | _ => false

/-! ## What a written value does from the effect point on -/

/-- R197: the policy a FULL_POLICY value names. -/
def fullPolicyOf (v : Nat) : FullPolicy := if v = 0 then .stall else .through

/-- R197: the mode a REL_MODE value names. -/
def relModeOf (v : Nat) : RelMode := if v = 0 then .quiet else .count

/-- R48, R49: FULL_POLICY takes its value; a change to THROUGH ends every STALL wait, before the pressure
test (notes/assumptions/35.md). -/
def writeFullPolicy (v : Nat) (s : State) : State :=
  let t := setRegs { s.regs with fullPolicy := fullPolicyOf v } s
  if fullPolicyOf v = .through ∧ s.regs.fullPolicy = .stall then settle (endStalls t) else t

/-- R139: SLEEP_DELAY takes its value; a running countdown restarts from it, and 0 stops it. -/
def writeSleepDelay (v : Nat) (s : State) : State :=
  idleTest
    (setPower { s.power with sleepCountdown := none } (setRegs { s.regs with sleepDelay := BitVec.ofNat 16 v } s))

/-- R152: WINDOW_PERIOD is staged, and becomes current at once while the current period is 0. -/
def writeWindowPeriod (v : Nat) (s : State) : State :=
  let t := setPower { s.power with staged := BitVec.ofNat 16 v } s
  if s.power.current == 0 then makeStagedCurrent t else t

/-- R188 step 5: the register takes the value, with what its own rule adds. A read-only register takes none. -/
def storeRegister (r : Register) (v : Nat) (s : State) : State :=
  match r with
  | .tickDiv => setRegs { s.regs with tickDiv := BitVec.ofNat 8 v } s
  | .fullPolicy => writeFullPolicy v s
  | .deferLimit => deferralTest (setRegs { s.regs with deferLimit := BitVec.ofNat 16 v } s)
  | .deferCount => deferralTest (setRegs { s.regs with deferCount := BitVec.ofNat 8 v } s)
  | .rdRetry => setRegs { s.regs with rdRetry := BitVec.ofNat 8 v } s
  | .wrRetry => setRegs { s.regs with wrRetry := BitVec.ofNat 8 v } s
  | .creditLimit => setRegs { s.regs with creditLimit := BitVec.ofNat 8 v } s
  | .respLimit => setRegs { s.regs with respLimit := BitVec.ofNat 16 v } s
  | .highMark => settle (setRegs { s.regs with highMark := BitVec.ofNat 8 v } s)
  | .lowMark => settle (setRegs { s.regs with lowMark := BitVec.ofNat 8 v } s)
  | .oppMark => settle (setRegs { s.regs with oppMark := BitVec.ofNat 8 v } s)
  | .sleepDelay => writeSleepDelay v s
  | .wakeLimit => setRegs { s.regs with wakeLimit := BitVec.ofNat 16 v } s
  | .windowPeriod => writeWindowPeriod v s
  | .ageLimit g => setGroup g { s.groups[g] with ageLimit := BitVec.ofNat 16 v } s
  | .relMode g => setGroup g { s.groups[g] with relMode := relModeOf v } s
  | .relValue g => setGroup g { s.groups[g] with relValue := BitVec.ofNat 16 v } s
  | .lineLimit g => setGroup g { s.groups[g] with lineLimit := BitVec.ofNat 8 v } s
  | .companions g => setGroup g { s.groups[g] with companions := BitVec.ofNat 4 v } s
  | .attnEnable => setRegs { s.regs with attnEnable := BitVec.ofNat 16 v } s
  | .id | .attnStatus | .wakes | .sleeps | .fullHits | .throughWrites | .retries | .discardedLines | .resetRecord => s

/-- R188: the judgement of a write of register r, from its second step on: read only, width, range and consistency,
state, effect. -/
def judgeWrite (r : Register) (v : BitVec 32) (s : State) : Answer :=
  if readOnly r then denied .refused s
  else if 2 ^ registerWidth r ≤ v.toNat then denied .badArg s
  else if !inRange s r v.toNat then denied .badArg s
  else if writeBusy s r then denied .busy s
  else ok (storeRegister r v.toNat s)

/-- R188: the judgement of WRITE_REG: a number that names no register is answered BAD_ARG. -/
def judgeWriteReg (n : Byte) (v : BitVec 32) (s : State) : Answer :=
  match registerOfNumber n with
  | some r => judgeWrite r v s
  | none => denied .badArg s

/-- R187: the judgement of READ_REG. -/
def judgeReadReg (n : Byte) (s : State) : Answer :=
  match registerOfNumber n with
  | some r => okData (bytesBE 4 (registerValue s r)) s
  | none => denied .badArg s

/-- A write of register r at its effect point. -/
def writeRegister (r : Register) (v : BitVec 32) (s : State) : State :=
  manage .writeReg (registerWriteArgs r v) (judgeWrite r v) s

/-- READ_REG (R187). -/
def execReadReg (n : Byte) (s : State) : Host.Outcome State Fault Refusal :=
  .next (manage .readReg [n] (judgeReadReg n) s)

/-- WRITE_REG (R188), whichever register the number names. -/
def execWriteReg (n : Byte) (v : BitVec 32) (s : State) : Host.Outcome State Fault Refusal :=
  .next (manage .writeReg (writeArgs n v) (judgeWriteReg n v) s)

/-- TICK_DIV (R86). -/
def execTickDiv (v : BitVec 32) (s : State) : Host.Outcome State Fault Refusal := .next (writeRegister .tickDiv v s)

/-- FULL_POLICY (R48). -/
def execFullPolicy (v : BitVec 32) (s : State) : Host.Outcome State Fault Refusal :=
  .next (writeRegister .fullPolicy v s)

/-- DEFER_LIMIT (R70). -/
def execDeferLimit (v : BitVec 32) (s : State) : Host.Outcome State Fault Refusal :=
  .next (writeRegister .deferLimit v s)

/-- DEFER_COUNT (R70). -/
def execDeferCount (v : BitVec 32) (s : State) : Host.Outcome State Fault Refusal :=
  .next (writeRegister .deferCount v s)

/-- CREDIT_LIMIT (R114). -/
def execCreditLimit (v : BitVec 32) (s : State) : Host.Outcome State Fault Refusal :=
  .next (writeRegister .creditLimit v s)

/-- RESP_LIMIT (R128). -/
def execRespLimit (v : BitVec 32) (s : State) : Host.Outcome State Fault Refusal :=
  .next (writeRegister .respLimit v s)

/-- HIGH_MARK (R119). -/
def execHighMark (v : BitVec 32) (s : State) : Host.Outcome State Fault Refusal := .next (writeRegister .highMark v s)

/-- LOW_MARK (R119). -/
def execLowMark (v : BitVec 32) (s : State) : Host.Outcome State Fault Refusal := .next (writeRegister .lowMark v s)

/-- OPP_MARK (R119). -/
def execOppMark (v : BitVec 32) (s : State) : Host.Outcome State Fault Refusal := .next (writeRegister .oppMark v s)

/-- SLEEP_DELAY (R139). -/
def execSleepDelay (v : BitVec 32) (s : State) : Host.Outcome State Fault Refusal :=
  .next (writeRegister .sleepDelay v s)

/-- WINDOW_PERIOD (R152). -/
def execWindowPeriod (v : BitVec 32) (s : State) : Host.Outcome State Fault Refusal :=
  .next (writeRegister .windowPeriod v s)

/-- ATTN_ENABLE (R167). -/
def execAttnEnable (v : BitVec 32) (s : State) : Host.Outcome State Fault Refusal :=
  .next (writeRegister .attnEnable v s)

/-- AGE_LIMIT of group g (R89). -/
def execAgeLimit (g : GroupIx) (v : BitVec 32) (s : State) : Host.Outcome State Fault Refusal :=
  .next (writeRegister (.ageLimit g) v s)

/-- REL_MODE of group g (R89). -/
def execRelMode (g : GroupIx) (v : BitVec 32) (s : State) : Host.Outcome State Fault Refusal :=
  .next (writeRegister (.relMode g) v s)

/-- REL_VALUE of group g (R89). -/
def execRelValue (g : GroupIx) (v : BitVec 32) (s : State) : Host.Outcome State Fault Refusal :=
  .next (writeRegister (.relValue g) v s)

/-- LINE_LIMIT of group g (R89). -/
def execLineLimit (g : GroupIx) (v : BitVec 32) (s : State) : Host.Outcome State Fault Refusal :=
  .next (writeRegister (.lineLimit g) v s)

/-- COMPANIONS of group g (R89). -/
def execCompanions (g : GroupIx) (v : BitVec 32) (s : State) : Host.Outcome State Fault Refusal :=
  .next (writeRegister (.companions g) v s)

end Sys2Proof.Machine
end

