-- ==== Sys2Proof/Machine/Resets.lean ====
section
/-! DEFINITION. Machine/Resets.lean: the pin resets and their end (R24, R27, R63, R84, R88, R111, R113, R136, R158, R160,
R170, R172, R173, R176, R192, R196). What every reset gives is State.reset; a warm reset keeps what its rules keep. -/

namespace Sys2Proof.Machine

/-- R158: while a pin reset is asserted the reset wake is not yet requested: the power record of the reset with its wake
timer stopped. -/
def inReset (pin : ResetPin) (s : State) : State :=
  { s with resetPin := pin, downstreamOut := [], power := { s.power with wakeTimer := none } }

/-- A power-on reset: every field but the inputs (the command queue, the chip select pin and the host's serial bytes)
takes its power-on value. -/
def powerOnReset (s : State) : State :=
  inReset .powerOn
    { State.reset with pending := s.pending, chipSelectLow := s.chipSelectLow, serialIn := s.serialIn }

/-- R88: a group record after a warm reset: IDLE, its configuration kept, its running fields at their power-on values. -/
def warmGroup (x : Group) : Group :=
  { Group.powerOn with
    ageLimit := x.ageLimit, relMode := x.relMode, relValue := x.relValue, lineLimit := x.lineLimit,
    companions := x.companions }

/-- R136: the power record after a warm reset: the staged period is kept and becomes current. -/
def warmPower (p : Power) : Power :=
  { Power.powerOn with staged := p.staged, current := p.staged, windowCountdown := windowStart p.staged }

/-- A warm reset: the region table, the configuration and the data bytes are kept, and the reset record counts the lost
lines (R24, R27, R88, R173). -/
def warmReset (s : State) : State :=
  inReset .warm
    { State.reset with
      pending := s.pending
      chipSelectLow := s.chipSelectLow
      serialIn := s.serialIn
      regions := s.regions
      entries := s.entries.map fun x => .cleared x.data
      groups := s.groups.map warmGroup
      divider := s.divider
      respLimitSeen := s.regs.respLimit
      power := warmPower s.power
      resetRecord := { cause := .pin, lostLines := nonFreeEntries s }
      regs := s.regs }

/-- R158: at the end of a pin reset WAKE_REQUEST is sent and the wake timer starts from WAKE_LIMIT, in WAKING at
attempt 1. -/
def endReset (s : State) : State :=
  if running s then s else wakeAttempt 1 { s with resetPin := .released }

/-- POWER_ON_RESET (R24): PORn is asserted, whether RSTn is asserted or not (R173). -/
def execPowerOnReset (s : State) : Host.Outcome State Fault Refusal := .next (powerOnReset s)

/-- WARM_RESET (R24): RSTn is asserted. While a reset is asserted already it starts no second reset, and a power-on reset
stays one (R173). -/
def execWarmReset (s : State) : Host.Outcome State Fault Refusal := .next (whileRunning warmReset s)

/-- RESET_END (R158). -/
def execResetEnd (s : State) : Host.Outcome State Fault Refusal := .next (endReset s)

end Sys2Proof.Machine
end

