-- ==== Sys2Proof/Machine/Timers.lean ====
section
/-! DEFINITION. Machine/Timers.lean: the tick of the time base (R86, R87, R136) and the expiries of the group timers (R95,
R96). -/

namespace Sys2Proof.Machine

/-- R136: a running countdown decreases by 1 at each tick; one that has run out waits for its expiry. -/
def countDown (c : Option Nat) : Option Nat := c.map fun n => n - 1

/-- R136: the three countdowns of the power record advance by one tick. -/
def tickPower (p : Power) : Power :=
  { p with
    sleepCountdown := countDown p.sleepCountdown
    wakeTimer := countDown p.wakeTimer
    windowCountdown := countDown p.windowCountdown }

/-- R86, R87: one tick: the timestamp and every countdown advance, and TICK_DIV governs the tick that begins. -/
def tickOnce (s : State) : State :=
  { s with
    timestamp := s.timestamp + 1
    divider := s.regs.tickDiv
    respLimitSeen := s.regs.respLimit
    power := tickPower s.power }

/-- TICK (R86). -/
def execTick (s : State) : Host.Outcome State Fault Refusal := .next (whileRunning tickOnce s)

/-- A group timer that started at a time has run for a period, in units of 10 µs; a period of 0 never ends (R95, R96). -/
def ranFor (s : State) (start : Option Timestamp) (period : BitVec 16) : Bool :=
  match start with
  | some t => period != 0 && period.toNat * 10 ≤ elapsed s t
  | none => false

/-- R95, R96: an expiry's release request, made if the group has a HELD entry. -/
def expiryRequest (g : GroupIx) (s : State) : State :=
  if 0 < s.counts.groupHeld[g] then releaseRequest g s else s

/-- R95: the age timer of a HOLDING group expires: it stops and makes its request. -/
def ageExpiry (g : GroupIx) (s : State) : State :=
  let x := s.groups[g]
  if x.state = .holding ∧ ranFor s x.ageTimer x.ageLimit then
    settle (expiryRequest g (setGroup g { x with ageTimer := none } s))
  else s

/-- R96: the quiet timer of a HOLDING group in QUIET mode expires: it stops and makes its request. -/
def quietExpiry (g : GroupIx) (s : State) : State :=
  let x := s.groups[g]
  if x.state = .holding ∧ x.relMode = .quiet ∧ ranFor s x.quietTimer x.relValue then
    settle (expiryRequest g (setGroup g { x with quietTimer := none } s))
  else s

/-- AGE_TIMER_EXPIRY (R95). -/
def execAgeTimerExpiry (g : GroupIx) (s : State) : Host.Outcome State Fault Refusal :=
  .next (whileRunning (ageExpiry g) s)

/-- QUIET_TIMER_EXPIRY (R96). -/
def execQuietTimerExpiry (g : GroupIx) (s : State) : Host.Outcome State Fault Refusal :=
  .next (whileRunning (quietExpiry g) s)

end Sys2Proof.Machine
end

