-- ==== Sys2Proof/Machine/Upstream.lean ====
section
/-! DEFINITION. Machine/Upstream.lean: arrival on the upstream link (R191, R192), classification (R29 to R32), and the
decisions of WRITEs (R41), READs (R64) and DRAINs (R106) at their queue heads. -/

namespace Sys2Proof.Machine

/-! ## Arrival (R191, R192) -/

/-- R192: the tag is in the initiator's outstanding set. -/
def tagOutstanding (q : Initiator) (t : UpTag) : Bool := q.tags.getLsbD t.toNat

/-- R191, R192: a request joins the tail of its queue, its tag joins the outstanding set and its credit is spent. -/
def enqueue (i : InitIx) (r : Request) (s : State) : State :=
  let q := s.initiators[i]
  setInitiator i
    { q with queue := q.queue ++ [r], tags := q.tags ||| (1#16 <<< r.tag.toNat), credits := q.credits - 1 } s

/-- R191, R192: a request arrives for initiator i. A request beyond the queue's 4 slots is discarded without response or
credit; a duplicate tag is discarded and its credit returned; both raise PROTOCOL. -/
def arrive (i : InitIx) (r : Request) (s : State) : State :=
  let q := s.initiators[i]
  if Config.queueDepth ≤ q.queue.length then raise .protocol s
  else if tagOutstanding q r.tag then raise .protocol (sendUp (.credit i) s)
  else enqueue i r s

/-- R191: a request from initiator 6 or 7 is answered ERROR MALFORMED on its arrival, with no queue, credit or tag set. -/
def refuseArrival (r : Request) (s : State) : State :=
  raise .protocol (sendUp (.response r.initiator r.tag (.error .malformed)) s)

/-- R191: UPSTREAM_REQUEST. -/
def upstreamArrival (r : Request) (s : State) : State :=
  match initiatorOf r.initiator with
  | some i => arrive i r s
  | none => refuseArrival r s

/-! ## Classification (R28 to R32) -/

/-- R28: the region contains the address. -/
def contains (x : Region) (a : Addr) : Bool :=
  x.base.toNat ≤ a.toNat && a.toNat < x.base.toNat + 2 ^ x.sizeLog

/-- R29: the valid entry of the lowest index that contains the address. -/
def matchingRegion (s : State) (a : Addr) : Option Region :=
  s.regions.toList.find? fun x => x.valid && contains x a

/-- R29: the policy of a request's classification; PASS when unmatched. -/
def requestPolicy (s : State) (r : Request) : Policy :=
  match matchingRegion s r.address with
  | some x => x.policy
  | none => .pass

/-- R31: the read class of a request's classification. -/
def requestClass (s : State) (r : Request) : ReadClass :=
  match matchingRegion s r.address with
  | some x => if hasUrgent r then .urgent else x.readClass
  | none => .urgent

/-- R32: the durable default of a policy. -/
def policyDurable : Policy → Bool
  | .hold _ d => d
  | .pass | .block => false

/-- R32: a WRITE is durable. -/
def requestDurable (s : State) (r : Request) : Bool := hasDurable r || policyDurable (requestPolicy s r)

/-- R70: the class a read is recorded with: URGENT while DEFER_LIMIT is 0. -/
def recordedClass (s : State) (r : Request) : ReadClass :=
  if s.regs.deferLimit == 0 then .urgent else requestClass s r

/-! ## What a decision does -/

/-- R193: a malformed request is answered ERROR MALFORMED and raises PROTOCOL. -/
def refuseMalformed (i : InitIx) (r : Request) (s : State) : State :=
  raise .protocol (answerHead i r.tag (.error .malformed) s)

/-- A request is refused at its decision with an error cause. -/
def refuse (c : ErrorCause) (i : InitIx) (r : Request) (s : State) : State :=
  answerHead i r.tag (.error c) s

/-- A request is decided to wait at its queue head. -/
def wait (c : WaitCause) (i : InitIx) (s : State) : State := setHead i (.waiting c) s

/-- The (initiator, tag) pair of a request of initiator i. -/
def waiterOf (i : InitIx) (r : Request) : Waiter := { initiator := i, tag := r.tag }

/-- R11: where a DURABLE write has set expedite, the setting is a wake cause. -/
def expediteWake (wasSet : Bool) (s : State) : State := if wasSet then s else takeWake s

/-- R44, R51: a write is merged into the HELD entry e and reported to the entry's group. -/
def mergeWrite (e : EntryIx) (i : InitIx) (r : Request) (durable : Bool) (s : State) : State :=
  let g := s.entries[e].group
  if durable then
    let wasSet := s.entries[e].expedite
    writeReport g
      (expediteWake wasSet (popHead i (merge e (requestMask r) (requestBytes r) [waiterOf i r] s)))
  else
    writeReport g (answerHead i r.tag .done (merge e (requestMask r) (requestBytes r) [] s))

/-- R47, R51: a write allocates the FREE entry e in group g, and the group unit sees the new HELD count before the
report (R94). -/
def allocateWrite (e : EntryIx) (g : GroupIx) (i : InitIx) (r : Request) (durable : Bool) (s : State) : State :=
  if durable then
    writeReport g (heldRose g (takeWake (popHead i
      (allocate e (requestLine r) g (requestMask r) (requestBytes r) [waiterOf i r] s))))
  else
    writeReport g (heldRose g (answerHead i r.tag .done
      (allocate e (requestLine r) g (requestMask r) (requestBytes r) [] s)))

/-- R7: the entry an allocation takes; none where no entry is FREE or the counter is at its top value. -/
def allocatable (s : State) : Option EntryIx := if s.seqCounter == topSeq then none else lowestFreeEntry s

/-- R54: the write becomes a pass-through write, which waits at its head and posts a wake cause. -/
def becomePass (i : InitIx) (s : State) : State := takeWake (setHead i .passThrough s)

/-- R48 to R50: the full policy decides a write whose allocation failed. -/
def decideByFullPolicy (i : InitIx) (s : State) : State :=
  match s.regs.fullPolicy with
  | .stall => wait .stall i s
  | .through => becomePass i (countThroughWrite s)

/-- Step 7 of R41, with R61: a write that misses in a HOLD region of the HOLDING group g. -/
def decideAllocation (g : GroupIx) (i : InitIx) (r : Request) (s : State) : State :=
  match allocatable s with
  | some e =>
    if unavailable s && requestDurable s r then refuse .unavailable i r s
    else allocateWrite e g i r (requestDurable s r) s
  | none => if unavailable s then refuse .unavailable i r s else decideByFullPolicy i s

/-- Step 8 of R41, with R61: a write that misses in any other case. -/
def decidePass (i : InitIx) (r : Request) (s : State) : State :=
  if unavailable s then refuse .unavailable i r s else becomePass i s

/-- Steps 7 and 8 of R41, R35: a write that misses. -/
def decideMiss (i : InitIx) (r : Request) (s : State) : State :=
  match requestPolicy s r with
  | .hold g _ => if s.groups[g].state = .holding then decideAllocation g i r s else decidePass i r s
  | .pass | .block => decidePass i r s

/-- Step 6 of R41, with R52 and R61: a write that hits the HELD entry e. -/
def decideHeld (e : EntryIx) (i : InitIx) (r : Request) (s : State) : State :=
  if requestDurable s r then
    if unavailable s then refuse .unavailable i r s
    else if Config.maxWaiters ≤ s.entries[e].waiters.length then wait .waitersFull i s
    else mergeWrite e i r true s
  else mergeWrite e i r false s

/-- Steps 4 to 8 of R41. -/
def decideByStore (i : InitIx) (r : Request) (s : State) : State :=
  match lookup s (requestLine r) with
  | some e =>
    match s.entries[e].state with
    | .faulted => refuse .faultedLine i r s
    | .releasing => wait .releasing i s
    | .held => decideHeld e i r s
    | .free => decideMiss i r s
  | none => decideMiss i r s

/-- R41: the decision of a WRITE (or of a request of undefined kind, which is malformed). -/
def decideWrite (i : InitIx) (r : Request) (s : State) : State :=
  let l := requestLine r
  if malformed r then refuseMalformed i r s
  else if requestPolicy s r = .block then refuse .blocked i r s
  else if lineHasRead s l then wait (.pendingRead (lineIn s l .releasing)) i s
  else if lineHasPass s l then wait .passThrough i s
  else decideByStore i r s

/-! ## Reads (R64) -/

/-- R66: the read is answered DATA from the entry e. -/
def fullHit (e : EntryIx) (i : InitIx) (r : Request) (s : State) : State :=
  countFullHit (answerHead i r.tag (.data (bytesAt r.address r.length.toNat s.entries[e].data)) s)

/-- R69: the state in which a read that needs memory enters the list. -/
def entryReadState (s : State) (r : Request) : ReadState :=
  if lineIn s (requestLine r) .releasing then .waitRelease
  else if s.power.state = .awake then .ready
  else if recordedClass s r = .urgent then .ready
  else .deferred

/-- R68: the record with which a read enters the list. -/
def newRead (s : State) (i : InitIx) (r : Request) : PendingRead where
  initiator := i
  tag := r.tag
  address := r.address
  length := r.length
  readClass := recordedClass s r
  arrival := s.timestamp
  state := entryReadState s r
  attempts := 0
  slot := none

/-- R71, R72: the wake causes of the read path that stand are taken. -/
def readWake (s : State) : State := if urgentStands s || deferredStand s then takeWake s else s

/-- Step 8 of R64: the read joins the tail of the pending read list. -/
def enterRead (i : InitIx) (r : Request) (s : State) : State :=
  readWake (popHead i { s with reads := s.reads ++ [newRead s i r] })

/-- Steps 6 to 8 of R64: a read that needs memory. -/
def decideMemoryRead (i : InitIx) (r : Request) (s : State) : State :=
  if unavailable s then refuse .unavailable i r s
  else if Config.maxReads ≤ s.reads.length then wait .readListFull i s
  else enterRead i r s

/-- Steps 4 to 8 of R64. -/
def decideReadByStore (i : InitIx) (r : Request) (s : State) : State :=
  match lookup s (requestLine r) with
  | some e =>
    if s.entries[e].state = .faulted then refuse .faultedLine i r s
    else if covers s.entries[e].mask (requestMask r) then fullHit e i r s
    else decideMemoryRead i r s
  | none => decideMemoryRead i r s

/-- R64: the decision of a READ (or of a request of undefined kind, which is malformed). -/
def decideRead (i : InitIx) (r : Request) (s : State) : State :=
  if malformed r then refuseMalformed i r s
  else if requestPolicy s r = .block then refuse .blocked i r s
  else if lineHasPass s (requestLine r) then wait .passThrough i s
  else decideReadByStore i r s

/-! ## Drains (R106) -/

/-- R107: the record with which a drain enters the list. -/
def newDrain (s : State) (i : InitIx) (r : Request) (m : Seq) : Drain where
  initiator := i
  tag := r.tag
  groups := r.groups
  mark := m
  arrival := s.timestamp

/-- Step 6 of R106: the drain enters the list, and its release requests are made (R108). -/
def enterDrain (i : InitIx) (r : Request) (m : Seq) (s : State) : State :=
  drainRequests r.groups (popHead i { s with drains := s.drains ++ [newDrain s i r m] })

/-- Steps 3 to 6 of R106, for a drain whose mark is m. -/
def decideMarkedDrain (i : InitIx) (r : Request) (m : Seq) (s : State) : State :=
  if !drainHeldUp s r.groups m then answerHead i r.tag (drainAnswer s r.groups m) s
  else if unavailable s then refuse .unavailable i r s
  else if Config.maxDrains ≤ s.drains.length then wait .drainListFull i s
  else enterDrain i r m s

/-- R106: the decision of a DRAIN (or of a request of undefined kind, which is malformed). With no mark it covers no
entry and is answered DONE. -/
def decideDrain (i : InitIx) (r : Request) (s : State) : State :=
  if malformed r then refuseMalformed i r s
  else if r.groups = 0 then answerHead i r.tag .done s
  else
    match newest s with
    | none => answerHead i r.tag .done s
    | some m => decideMarkedDrain i r m s

/-! ## Decisions at queue heads (R58, R60) -/

/-- The head request of initiator i, if it is to be decided and is of the asked kind or of the undefined kind. -/
def decidable (s : State) (i : InitIx) (kind : Request → Bool) : Option Request :=
  match s.initiators[i].queue, s.initiators[i].head with
  | r :: _, .undecided => if kind r || isUndefinedKind r then some r else none
  | _, _ => none

/-- A decision at initiator i's head, followed by the tests of what it changed. Where no such request is to be decided,
no decision is taken. -/
def decision (i : InitIx) (kind : Request → Bool) (decide : Request → State → State) (s : State) : State :=
  match decidable s i kind with
  | some r => settle (decide r s)
  | none => s

/-- UPSTREAM_REQUEST (R191). -/
def execUpstreamRequest (r : Request) (s : State) : Host.Outcome State Fault Refusal :=
  .next (whileRunning (upstreamArrival r) s)

/-- WRITE_DECISION (R41). -/
def execWriteDecision (i : InitIx) (s : State) : Host.Outcome State Fault Refusal :=
  .next (whileRunning (decision i isWrite (decideWrite i)) s)

/-- READ_DECISION (R64). -/
def execReadDecision (i : InitIx) (s : State) : Host.Outcome State Fault Refusal :=
  .next (whileRunning (decision i isRead (decideRead i)) s)

/-- DRAIN_DECISION (R106). -/
def execDrainDecision (i : InitIx) (s : State) : Host.Outcome State Fault Refusal :=
  .next (whileRunning (decision i isDrain (decideDrain i)) s)

end Sys2Proof.Machine
end

