-- ==== Sys2Proof/Machine/Dispatch.lean ====
section
/-! DEFINITION. Machine/Dispatch.lean: one arm per command, each one direct call of its meaning. -/

namespace Sys2Proof.Machine

/-- The effect of a command on everything but the queue of waiting commands. -/
def exec (i : Instr) (s : State) : Host.Outcome State Fault Refusal :=
  match i with
  | .upstreamRequest r => Sys2Proof.Machine.execUpstreamRequest r s
  | .writeDecision n => Sys2Proof.Machine.execWriteDecision n s
  | .readDecision n => Sys2Proof.Machine.execReadDecision n s
  | .drainDecision n => Sys2Proof.Machine.execDrainDecision n s
  | .deferLimitReached => Sys2Proof.Machine.execDeferLimitReached s
  | .grant => Sys2Proof.Machine.execGrant s
  | .completeOk tag data => Sys2Proof.Machine.execCompleteOk tag data s
  | .completePoison tag data => Sys2Proof.Machine.execCompletePoison tag data s
  | .completeFail tag data => Sys2Proof.Machine.execCompleteFail tag data s
  | .undefinedDownstreamMessage kind => Sys2Proof.Machine.execUndefinedDownstreamMessage kind s
  | .slotTimeout tag => Sys2Proof.Machine.execSlotTimeout tag s
  | .sleepCountdownExpiry => Sys2Proof.Machine.execSleepCountdownExpiry s
  | .sleepAccept => Sys2Proof.Machine.execSleepAccept s
  | .sleepDecline => Sys2Proof.Machine.execSleepDecline s
  | .wakeReady => Sys2Proof.Machine.execWakeReady s
  | .wakeTimerExpiry => Sys2Proof.Machine.execWakeTimerExpiry s
  | .windowBoundary => Sys2Proof.Machine.execWindowBoundary s
  | .ageTimerExpiry g => Sys2Proof.Machine.execAgeTimerExpiry g s
  | .quietTimerExpiry g => Sys2Proof.Machine.execQuietTimerExpiry g s
  | .tick => Sys2Proof.Machine.execTick s
  | .oppChange level => Sys2Proof.Machine.execOppChange level s
  | .powerOnReset => Sys2Proof.Machine.execPowerOnReset s
  | .warmReset => Sys2Proof.Machine.execWarmReset s
  | .resetEnd => Sys2Proof.Machine.execResetEnd s
  | .frameEnd => Sys2Proof.Machine.execFrameEnd s
  | .unknownCommand byte => Sys2Proof.Machine.execUnknownCommand byte s
  | .readReg number => Sys2Proof.Machine.execReadReg number s
  | .writeReg number value => Sys2Proof.Machine.execWriteReg number value s
  | .tickDiv value => Sys2Proof.Machine.execTickDiv value s
  | .fullPolicy value => Sys2Proof.Machine.execFullPolicy value s
  | .deferLimit value => Sys2Proof.Machine.execDeferLimit value s
  | .deferCount value => Sys2Proof.Machine.execDeferCount value s
  | .creditLimit value => Sys2Proof.Machine.execCreditLimit value s
  | .respLimit value => Sys2Proof.Machine.execRespLimit value s
  | .highMark value => Sys2Proof.Machine.execHighMark value s
  | .lowMark value => Sys2Proof.Machine.execLowMark value s
  | .oppMark value => Sys2Proof.Machine.execOppMark value s
  | .sleepDelay value => Sys2Proof.Machine.execSleepDelay value s
  | .windowPeriod value => Sys2Proof.Machine.execWindowPeriod value s
  | .attnEnable value => Sys2Proof.Machine.execAttnEnable value s
  | .ageLimit g value => Sys2Proof.Machine.execAgeLimit g value s
  | .relMode g value => Sys2Proof.Machine.execRelMode g value s
  | .relValue g value => Sys2Proof.Machine.execRelValue g value s
  | .lineLimit g value => Sys2Proof.Machine.execLineLimit g value s
  | .companions g value => Sys2Proof.Machine.execCompanions g value s
  | .take => Sys2Proof.Machine.execTake s
  | .ack causes => Sys2Proof.Machine.execAck causes s
  | .regionRead index => Sys2Proof.Machine.execRegionRead index s
  | .regionWrite index entry => Sys2Proof.Machine.execRegionWrite index entry s
  | .groupOpen group => Sys2Proof.Machine.execGroupOpen group s
  | .groupClose group => Sys2Proof.Machine.execGroupClose group s
  | .groupReset group => Sys2Proof.Machine.execGroupReset group s
  | .release groups => Sys2Proof.Machine.execRelease groups s
  | .wake => Sys2Proof.Machine.execWake s
  | .cycle => Sys2Proof.Machine.execCycle s
  | .recover => Sys2Proof.Machine.execRecover s
  | .faultRead slot => Sys2Proof.Machine.execFaultRead slot s
  | .faultRetry entry => Sys2Proof.Machine.execFaultRetry entry s
  | .faultDiscard entry => Sys2Proof.Machine.execFaultDiscard entry s
  | .entryPeek entry => Sys2Proof.Machine.execEntryPeek entry s
  | .status => Sys2Proof.Machine.execStatus s
  | .clearCounters => Sys2Proof.Machine.execClearCounters s
  | .clear => Sys2Proof.Machine.execClear s
  | .frameStart => Sys2Proof.Machine.execFrameStart s

end Sys2Proof.Machine
end

