-- ==== Sys2Proof/Machine/Serial.lean ====
section
/-! DEFINITION. Machine/Serial.lean: the management link byte by byte (R175, R176): the phases of a frame, the bytes that
go out, and the effect point, where the command that the bytes spell is carried out. -/

namespace Sys2Proof.Machine

/-- R175: the number of response bytes that have gone out: all but those of the command, the arguments and the
turnaround. -/
def responseSent (f : Frame) : Nat := f.sent.length - (f.args.length + 2)

/-- R175: the byte that goes out while the next byte comes in: the response's next byte in RESPONSE, zero otherwise. -/
def dataOut (f : Frame) : Byte :=
  match f.phase with
  | .response => f.response.getD (responseSent f) 0
  | .command | .argument | .turnaround | .trailing => 0

/-- R175: the phase that follows the next byte, once the effect point is past. -/
def nextPhase (f : Frame) : Phase :=
  match f.phase with
  | .turnaround => .response
  | .response => if f.response.length ≤ responseSent f + 1 then .trailing else .response
  | .command => .command
  | .argument => .argument
  | .trailing => .trailing

/-- R175: the frame record after a byte that brings no effect point: the command byte or an argument byte is recorded,
and a byte after the effect point is ignored. -/
def frameAfterByte (b : Byte) (f : Frame) : Frame :=
  let sent := f.sent ++ [dataOut f]
  match f.phase with
  | .command => { f with phase := .argument, command := some b, sent := sent }
  | .argument => { f with args := f.args ++ [b], sent := sent }
  | .turnaround | .response | .trailing => { f with phase := nextPhase f, sent := sent }

/-- R175, R176: the command whose effect point the byte is: the last argument byte, or the command byte of a command
without arguments. -/
def effectOfByte (b : Byte) (f : Frame) : Option Instr :=
  match f.phase, f.command with
  | .command, _ => decodeFrame b []
  | .argument, some c => decodeFrame c (f.args ++ [b])
  | .argument, none | .turnaround, _ | .response, _ | .trailing, _ => none

/-- R175, R176: the host clocks one byte. It is ignored with no frame in progress and while a reset is asserted. At the
effect point the command is carried out as one command of a frame of its own. -/
def clockByte (b : Byte) (s : State) : Host.Outcome State Fault Refusal :=
  match s.frame with
  | none => .next s
  | some f =>
    if running s then
      match effectOfByte b f with
      | some c => exec c (setFrame (some .started) s)
      | none => .next (setFrame (some (frameAfterByte b f)) s)
    else .next s

/-- What the part does while no command waits: the host clocks its next serial byte, if there is one, and otherwise the
part idles (notes/assumptions/3.md, 9.md). -/
def whileNoCommand (s : State) : Host.Outcome State Fault Refusal :=
  match s.serialIn with
  | [] => .next s
  | b :: rest => clockByte b { s with serialIn := rest }

end Sys2Proof.Machine
end

