-- ==== Sys2Proof/Safety.lean ====
section
/-! DEFINITION. Safety.lean: what the spec says of the part in every state: the bounds of its queues and lists, the hold
store's bookkeeping, the fault list, the groups, the tags under the power states and the releases they carry, the power record, the ranges of the
register values and the region table, the tests that are up to date between two steps. -/

namespace Sys2Proof.Machine

/-- The slot carries an attempt of a pass-through write. -/
def Slot.carriesPass : Slot → Bool
  | .busy (.pass _) _ _ => true
  | .busy (.read ..) _ _ | .busy (.release _) _ _ | .free | .quarantined .. => false

/-- The slot carries an attempt of a release. -/
def Slot.carriesRelease : Slot → Bool
  | .busy (.release _) _ _ => true
  | .busy (.read ..) _ _ | .busy (.pass _) _ _ | .free | .quarantined .. => false

/-- R10, R68, R107, R127, R191: no list and no queue grows beyond its bound, the retry lists together with the attempts
of their kind in flight, an initiator's credits count its queue's free slots, and a head status stands only where there
is a head. -/
structure Bounded (s : State) : Prop where
  reads : s.reads.length ≤ 12
  drains : s.drains.length ≤ 4
  queues : ∀ i : InitIx, s.initiators[i].queue.length ≤ 4
  credits : ∀ i : InitIx, s.initiators[i].credits + s.initiators[i].queue.length = 4
  heads : ∀ i : InitIx, s.initiators[i].queue = [] → s.initiators[i].head = .undecided
  waiters : ∀ e : EntryIx, s.entries[e].waiters.length ≤ 3
  passRetries : s.passRetries.length + s.slots.countP Slot.carriesPass ≤ 8
  releaseRetries : s.releaseRetries.length + s.slots.countP Slot.carriesRelease ≤ 8

/-- The entry holds a line. -/
def bound (x : Entry) : Prop := x.state ≠ .free

/-- R2, R3, R4, R12, R13, R14: distinct lines and sequence numbers, a mask that is not empty, cleared FREE records, the
age list of exactly the HELD entries in sequence order, and counts that agree with the entries. -/
structure StoreSound (s : State) : Prop where
  lines : ∀ e f : EntryIx, bound s.entries[e] → bound s.entries[f] → s.entries[e].line = s.entries[f].line → e = f
  numbers : ∀ e f : EntryIx, bound s.entries[e] → bound s.entries[f] → s.entries[e].seq = s.entries[f].seq → e = f
  below : ∀ e : EntryIx, bound s.entries[e] → s.entries[e].seq < s.seqCounter
  masks : ∀ e : EntryIx, bound s.entries[e] → s.entries[e].mask ≠ 0
  cleared : ∀ e : EntryIx, s.entries[e].state = .free → s.entries[e] = Entry.cleared s.entries[e].data
  listed : ∀ e : EntryIx, e ∈ s.ageList ↔ s.entries[e].state = .held
  rising : s.ageList.Pairwise fun e f => s.entries[e].seq < s.entries[f].seq
  held : s.counts.held = s.entries.countP fun x => x.state == .held
  releasing : s.counts.releasing = s.entries.countP fun x => x.state == .releasing
  faulted : s.counts.faulted = s.entries.countP fun x => x.state == .faulted
  groups : ∀ g : GroupIx, s.counts.groupHeld[g] = s.entries.countP fun x => x.state == .held && x.group == g

/-- R1, R160, R161: each record names a FAULTED entry that names it, each FAULTED entry has its record, the addition
order lists each record once, and the FAULTED count is the number of records. -/
structure FaultsSound (s : State) : Prop where
  named : ∀ (k : FaultIx) (f : FaultRecord), s.faults[k] = some f →
    s.entries[f.entry].state = .faulted ∧ s.entries[f.entry].faultSlot = some k ∧ s.entries[f.entry].line = f.line ∧
      s.entries[f.entry].group = f.group ∧ s.entries[f.entry].mask = f.mask
  recorded : ∀ e : EntryIx, s.entries[e].state = .faulted →
    ∃ (k : FaultIx) (f : FaultRecord), s.entries[e].faultSlot = some k ∧ s.faults[k] = some f ∧ f.entry = e
  unfaulted : ∀ e : EntryIx, s.entries[e].state ≠ .faulted → s.entries[e].faultSlot = none
  once : s.faultOrder.Nodup
  ordered : ∀ k : FaultIx, k ∈ s.faultOrder ↔ s.faults[k].isSome
  number : s.faultOrder.length = s.counts.faulted

/-- R88, R91: a group record whose running fields are as in IDLE. -/
def quiet (x : Group) : Prop :=
  x.ageTimer = none ∧ x.quietTimer = none ∧ x.writeCount = 0 ∧ x.episode = .absent ∧ x.pendingRelease = false

/-- R88, R90 to R92, R103: an IDLE or CLOSED group's running fields are at rest and it owns no HELD or RELEASING entry; a
CLOSING group's timers are stopped and its episode covers all that it holds; a HOLDING group's episode, if any, has a
mark. -/
structure GroupsSound (s : State) : Prop where
  resting : ∀ g : GroupIx, s.groups[g].state = .idle ∨ s.groups[g].state = .closed → quiet s.groups[g]
  holding : ∀ g : GroupIx, s.groups[g].state = .holding → s.groups[g].episode ≠ .noMark
  closing : ∀ g : GroupIx, s.groups[g].state = .closing →
    s.groups[g].ageTimer = none ∧ s.groups[g].quietTimer = none ∧ ∃ m, s.groups[g].episode = .mark m ∧
      ∀ e : EntryIx, (s.entries[e].state = .held ∨ s.entries[e].state = .releasing) → s.entries[e].group = g →
        s.entries[e].seq ≤ m
  owners : ∀ e : EntryIx, (s.entries[e].state = .held ∨ s.entries[e].state = .releasing) →
    active s s.entries[e].group = true

/-- R53, R116: outside AWAKE no slot is BUSY and no entry is RELEASING; outside AWAKE and ENTERING every slot is FREE. -/
structure TagsFollowPower (s : State) : Prop where
  busy : s.power.state ≠ .awake → ∀ k : TagIx, s.slots[k].isBusy = false
  releasing : s.power.state ≠ .awake → ∀ e : EntryIx, s.entries[e].state ≠ .releasing
  free : s.power.state ≠ .awake → s.power.state ≠ .entering → ∀ k : TagIx, s.slots[k] = .free

/-- R113, R124, R127: who owns a release: a BUSY slot that carries one names a RELEASING entry, which no other BUSY slot
names; a release retry is a RELEASING entry that is on the list once and in no BUSY slot; and every RELEASING entry is in
flight or on the list. -/
structure ReleasesOwned (s : State) : Prop where
  inFlight : ∀ (k : TagIx) (e : EntryIx) (a : Timestamp) (n : Nat), s.slots[k] = .busy (.release e) a n →
    s.entries[e].state = .releasing
  once : ∀ (j k : TagIx) (e : EntryIx) (a b : Timestamp) (m n : Nat), s.slots[j] = .busy (.release e) a m →
    s.slots[k] = .busy (.release e) b n → j = k
  waiting : ∀ e ∈ s.releaseRetries, s.entries[e].state = .releasing ∧
    ∀ (k : TagIx) (a : Timestamp) (n : Nat), s.slots[k] ≠ .busy (.release e) a n
  distinct : s.releaseRetries.Nodup
  owner : ∀ e : EntryIx, s.entries[e].state = .releasing → e ∈ s.releaseRetries ∨
    ∃ (k : TagIx) (a : Timestamp) (n : Nat), s.slots[k] = .busy (.release e) a n

/-- R136, R137, R148, R153, R158: the power record agrees with its state; while a reset is asserted the record is that of
the reset wake, which has not begun. -/
structure PowerSound (s : State) : Prop where
  settled : s.power.state = .awake ∨ s.power.state = .entering ∨ s.power.state = .asleep → s.power.attempt = 0
  waking : s.power.state = .waking → 1 ≤ s.power.attempt ∧ s.power.attempt ≤ 3
  unavailable : s.power.state = .unavailable → s.power.attempt = 3
  resetting : s.resetPin ≠ .released →
    s.power.state = .waking ∧ s.power.attempt = 1 ∧ s.power.wakeTimer = none ∧ s.power.sleepCountdown = none
  timer : s.resetPin = .released → (s.power.wakeTimer.isSome = true ↔ s.power.state = .waking)
  noted : s.power.notedWake = true → s.power.state = .entering
  owed : s.power.cycleOwed = true → s.power.state = .entering
  window : s.power.windowCountdown.isSome = true ↔ s.power.current ≠ 0

/-- R26, R27: what a region table entry can hold: a size of 4 KiB to 1 TiB with a base that is a multiple of it, or, with
valid no, the power-on content. -/
def storable (x : Region) : Prop :=
  (x.valid = true → 12 ≤ x.sizeLog ∧ x.sizeLog ≤ 40 ∧ x.base.toNat % 2 ^ x.sizeLog = 0) ∧
    (x.valid = false → x = Region.powerOn)

/-- 9.6, R26, R70, R86, R89, R114, R119, R126, R128, R146, R165, R167, R189: every register value is in its range, every
region table entry is one that can be stored, and no set of causes holds a value that names none; the stored events are
event causes. -/
structure RegistersSound (s : State) : Prop where
  tickDiv : 20 ≤ s.regs.tickDiv.toNat ∧ s.regs.tickDiv.toNat ≤ 250
  deferCount : 1 ≤ s.regs.deferCount.toNat ∧ s.regs.deferCount.toNat ≤ 12
  rdRetry : s.regs.rdRetry.toNat ≤ 3
  wrRetry : s.regs.wrRetry.toNat ≤ 3
  creditLimit : 1 ≤ s.regs.creditLimit.toNat ∧ s.regs.creditLimit.toNat ≤ 8
  respLimit : 1 ≤ s.regs.respLimit.toNat ∧ s.regs.respLimit.toNat ≤ 1023
  highMark : 1 ≤ s.regs.highMark.toNat ∧ s.regs.highMark.toNat ≤ 48
  lowMark : s.regs.lowMark.toNat < s.regs.highMark.toNat
  oppMark : 1 ≤ s.regs.oppMark.toNat ∧ s.regs.oppMark.toNat ≤ s.regs.highMark.toNat
  wakeLimit : 1 ≤ s.regs.wakeLimit.toNat ∧ s.regs.wakeLimit.toNat ≤ 1023
  lineLimits : ∀ g : GroupIx, s.groups[g].lineLimit.toNat ≤ 48
  attnEnable : s.regs.attnEnable &&& 0xE000 = 0
  events : s.events &&& ~~~0x1F6D = 0
  regions : ∀ k : RegionIx, storable s.regions[k]

/-- R60, R65, R106, R120, R139: between two steps pressure stands as its test gives it, no head waits on what has ended,
and the sleep countdown runs exactly while its conditions hold. A STALL
write that is to be decided again counts as waiting no longer (notes/assumptions/35.md). -/
structure TestsTaken (s : State) : Prop where
  starts : pressureStart s = true → s.pressure = true
  ends : pressureEnd s = true → s.pressure = false
  waits : ∀ (i : InitIx) (r : Request) (rest : List Request) (c : WaitCause),
    s.initiators[i].queue = r :: rest → s.initiators[i].head = .waiting c → waitOver s r c = false
  countdown : s.power.sleepCountdown.isSome = countdownRuns s

/-- R3, the transition summary of 1.9: the ways one step other than a pin reset can change an entry's state. -/
def entryStep : EntryState → EntryState → Bool
  | .free, .held | .held, .releasing | .releasing, .free | .releasing, .faulted | .releasing, .held
  | .faulted, .held | .faulted, .free => true
  | a, b => a == b

/-- R137: the transitions of the power state that one step other than a pin reset can make. SLEEP_ACCEPT with a wake
wanted passes through ASLEEP to WAKING in its one transition (R142). -/
def powerStep : PowerState → PowerState → Bool
  | .awake, .entering | .entering, .asleep | .entering, .waking | .entering, .awake | .asleep, .waking
  | .waking, .awake | .waking, .unavailable | .unavailable, .waking => true
  | a, b => a == b

/-- Request r stands at the head of initiator i's queue and is to be decided, with no reset asserted (R58). -/
def AtHead (s : State) (i : InitIx) (r : Request) : Prop :=
  s.resetPin = .released ∧ s.initiators[i].head = .undecided ∧ ∃ rest, s.initiators[i].queue = r :: rest

/-- Request r at the head of initiator i's queue passes the malformed checks and the BLOCK check: steps 1 and 2 of R41
and of R64 do not settle it. -/
def Admitted (s : State) (i : InitIx) (r : Request) : Prop :=
  AtHead s i r ∧ malformed r = false ∧ requestPolicy s r ≠ .block

/-- Write r at the head of initiator i's queue passes steps 1 to 3 of R41. -/
def WriteAdmitted (s : State) (i : InitIx) (r : Request) : Prop :=
  Admitted s i r ∧ isWrite r = true ∧ lineHasRead s (requestLine r) = false ∧ lineHasPass s (requestLine r) = false

/-- Read r at the head of initiator i's queue passes steps 1 to 3 of R64. -/
def ReadAdmitted (s : State) (i : InitIx) (r : Request) : Prop :=
  Admitted s i r ∧ isRead r = true ∧ lineHasPass s (requestLine r) = false

/-- R64: the read needs memory: its line misses, or its entry is not FAULTED and lacks a position asked for. -/
def NeedsMemory (s : State) (r : Request) : Prop :=
  ∀ e : EntryIx, lookup s (requestLine r) = some e →
    s.entries[e].state ≠ .faulted ∧ covers s.entries[e].mask (requestMask r) = false

/-- R6: entry e is the lowest-indexed FREE entry. -/
def LowestFree (s : State) (e : EntryIx) : Prop :=
  s.entries[e].state = .free ∧ ∀ f : EntryIx, f < e → s.entries[f].state ≠ .free

/-- R7: allocation fails. -/
def AllocationFails (s : State) : Prop :=
  s.seqCounter = BitVec.allOnes 48 ∨ ∀ e : EntryIx, s.entries[e].state ≠ .free

/-- Steps 7 and 8 of R41: write r at the head of initiator i's queue misses the store. -/
def WriteMisses (s : State) (i : InitIx) (r : Request) : Prop :=
  WriteAdmitted s i r ∧ lookup s (requestLine r) = none

/-- R35: the write is classified HOLD in group g, and g is HOLDING. -/
def Holds (s : State) (r : Request) (g : GroupIx) : Prop :=
  (∃ d, requestPolicy s r = .hold g d) ∧ s.groups[g].state = .holding

/-- R125, R128: with no reset asserted, command c ends attempt n of operation op, which slot k carries since time a, as
failed with the cause, and v is the state with the slot gone FREE or, at a timeout, QUARANTINED. A completion that
carries bytes its slot's kind does not call for is taken as COMPLETE_FAIL. -/
def AttemptFails (s : State) (k : TagIx) (op : SlotOp) (n : Nat) (c : Instr) (cause : FailCause) (v : State) : Prop :=
  s.resetPin = .released ∧ ∃ a : Timestamp, s.slots[k] = .busy op a n ∧
    ((∃ bs, c = .completeFail k bs ∧ cause = .fail ∧ v = setSlot k .free s) ∨
      (∃ bs, c = .completePoison k bs ∧ cause = (if byteCountOk op bs then .poison else .fail) ∧
        v = setSlot k .free s) ∨
      (∃ bs, c = .completeOk k bs ∧ byteCountOk op bs = false ∧ cause = .fail ∧ v = setSlot k .free s) ∨
      (c = .slotTimeout k ∧ timedOut s a = true ∧ cause = .timeout ∧
        v = setSlot k (.quarantined (kindOf op) a n) s))

/-- R175: the frame record once a command with byte b and these arguments has been answered. -/
def answeredAs (b : Byte) (args : List Byte) (st : Status) (data : List Byte) : Frame where
  phase := .turnaround
  command := some b
  args := args
  response := statusCode st :: data
  sent := List.replicate (args.length + 1) 0

/-- R175 to R177: the management command c, taken at its effect point in state s, is answered with status st and the data
bytes, and leaves the state u but for the frame record, which holds the command, its arguments and the captured
response, with the turnaround byte next. -/
def Answers (c : Instr) (s : State) (st : Status) (data : List Byte) (u : State) : Prop :=
  ∃ (b : Byte) (args : List Byte), frameOf c = some (b, args) ∧
    exec c s = .next (setFrame (some (answeredAs b args st data)) u)

/-- n steps one after the other, while they answer next states. -/
def steps : Nat → State → Host.Outcome State Fault Refusal
  | 0, s => .next s
  | n + 1, s =>
    match step s with
    | .next t => steps n t
    | .fault r => .fault r
    | .refused r => .refused r

/-- The message is a line request (10.2). -/
def isLineRequest : DownMessage → Bool
  | .lineRead .. | .lineWrite .. => true
  | .sleepRequest | .wakeRequest => false

end Sys2Proof.Machine
end

