-- ==== Sys2Proof/WellFormed.lean ====
section
/-! DEFINITION. WellFormed.lean: which terms of Instr are commands the part can be given. The types rule out most
ill-formed terms (an initiator above 5, a tag above 7); the checks here say the rest. -/

namespace Sys2Proof

/-- 10.1: a request carries at most 127 data bytes. -/
def Request.wf (r : Request) : Bool := r.data.length ≤ 127

/-- 10.2: the kinds of a downstream message that are undefined. -/
def undefinedKind (k : BitVec 3) : Bool := k == 3 || k == 7

/-- A term of Instr that stands for a command: a request the link can carry (10.1), a downstream kind that is undefined
(10.2), a command byte that names no command (R177), and a WRITE_REG of a register without a row of its own. -/
def Instr.wf : Instr → Bool
  | .upstreamRequest r => r.wf
  | .undefinedDownstreamMessage k => undefinedKind k
  | .unknownCommand b => (commandOfByte b).isNone
  | .writeReg n v => writeCommand n v == .writeReg n v
  | .writeDecision _ | .readDecision _ | .drainDecision _ | .deferLimitReached | .grant
  | .completeOk _ _ | .completePoison _ _ | .completeFail _ _ | .slotTimeout _
  | .sleepCountdownExpiry | .sleepAccept | .sleepDecline | .wakeReady | .wakeTimerExpiry | .windowBoundary
  | .ageTimerExpiry _ | .quietTimerExpiry _ | .tick | .oppChange _ | .powerOnReset | .warmReset | .resetEnd
  | .frameEnd | .frameStart | .readReg _ | .tickDiv _ | .fullPolicy _ | .deferLimit _ | .deferCount _
  | .creditLimit _ | .respLimit _ | .highMark _ | .lowMark _ | .oppMark _ | .sleepDelay _ | .windowPeriod _
  | .attnEnable _ | .ageLimit _ _ | .relMode _ _ | .relValue _ _ | .lineLimit _ _ | .companions _ _
  | .take | .ack _ | .regionRead _ | .regionWrite _ _ | .groupOpen _ | .groupClose _ | .groupReset _ | .release _
  | .wake | .cycle | .recover | .faultRead _ | .faultRetry _ | .faultDiscard _ | .entryPeek _ | .status
  | .clearCounters | .clear => true

end Sys2Proof
end

