-- ==== Sys2Proof/Certificates/Slice0/Obligations.lean ====
section
/-! DEFINITION. Certificates/Slice0/Obligations.lean: the statements for the provers, one per group of rules. Each
docstring names the rules or sections it formalises; where a clause is the model's own choice it names the log entry. -/

open Sys2Proof Sys2Proof.Machine

/-! ## The machine -/

/-- The model's own (notes/assumptions/3.md): a step takes the command at the front of the queue and carries it out on
the state with the queue's rest. -/
def Obligations.StepRunsTheFrontCommand : Prop :=
  ∀ (c : Instr) (rest : List Instr) (s : State),
    s.pending = c :: rest → step s = exec c { s with pending := rest }

/-- The model's own (notes/assumptions/2.md, 3.md, 9.md): every command has a next state in every state and leaves the
queue alone, and the part idles while no command waits and the host clocks no serial byte. -/
def Obligations.EveryCommandCompletesAndKeepsTheQueue : Prop :=
  (∀ s : State, s.pending = [] → s.serialIn = [] → step s = .next s) ∧
  ∀ (c : Instr) (s : State), ∃ t, exec c s = .next t ∧ t.pending = s.pending

/-- R24, R27, R86 to R88, R113, R136, R158, R160, R170, R172, R173, R191, R192, 9.6: PORn gives every field its
power-on value whatever the state was, and the end of the reset sends the WAKE_REQUEST of the reset wake. The outputs
kept as logs, the inputs that a reset keeps and the wake timer that waits for the reset's end are the model's choice
(notes/assumptions/4.md, 10.md, 11.md). -/
def Obligations.PowerOnResetValues : Prop :=
  ∀ s : State, ∃ u t : State,
    exec .powerOnReset s = .next u ∧ exec .resetEnd u = .next t ∧
    u.resetPin = .powerOn ∧ u.downstreamOut = [] ∧ u.power.state = .waking ∧ u.power.wakeTimer = none ∧
    t = { State.reset with pending := s.pending, chipSelectLow := s.chipSelectLow, serialIn := s.serialIn } ∧
    t.resetPin = .released ∧ t.downstreamOut = [.wakeRequest] ∧ t.upstreamOut = [] ∧
    (∀ i : InitIx, t.initiators[i].queue = [] ∧ t.initiators[i].tags = 0 ∧ t.initiators[i].credits = 4) ∧
    (∀ k : RegionIx, t.regions[k].valid = false ∧ t.regions[k].base = 0 ∧ t.regions[k].sizeLog = 12 ∧
      t.regions[k].policy = .pass ∧ t.regions[k].readClass = .urgent) ∧
    (∀ e : EntryIx, t.entries[e] = .cleared .zero) ∧ t.ageList = [] ∧ t.seqCounter = 0 ∧
    t.counts.held = 0 ∧ t.counts.releasing = 0 ∧ t.counts.faulted = 0 ∧ (∀ g : GroupIx, t.counts.groupHeld[g] = 0) ∧
    t.reads = [] ∧ t.drains = [] ∧ t.timestamp = 0 ∧ (∀ k : TagIx, t.slots[k] = .free) ∧
    t.passRetries = [] ∧ t.releaseRetries = [] ∧ t.pressure = false ∧
    (∀ g : GroupIx, t.groups[g].state = .idle ∧ quiet t.groups[g]) ∧
    t.power.state = .waking ∧ t.power.attempt = 1 ∧ t.power.wakeTimer = some 120 ∧ t.power.sleepCountdown = none ∧
    t.power.notedWake = false ∧ t.power.cycleOwed = false ∧ t.power.current = 0 ∧ t.power.windowCountdown = none ∧
    (∀ k : FaultIx, t.faults[k] = none) ∧ t.faultOrder = [] ∧ attention t = 0x1000 ∧
    t.resetRecord = { cause := .powerOn, lostLines := 0 } ∧ t.frame = none ∧
    (∀ r : Register, readOnly r = false →
      registerValue t r =
        match r with
        | .tickDiv => 100
        | .deferLimit => 2000
        | .deferCount => 8
        | .rdRetry => 1
        | .wrRetry => 2
        | .creditLimit => 4
        | .respLimit => 250
        | .highMark => 40
        | .lowMark => 16
        | .oppMark => 24
        | .wakeLimit => 120
        | _ => 0)

/-- R24, R27, R84, R88, R136, R158, R160, R170, R172, R173, R191, R192: RSTn keeps the region table, the data bytes,
the register values and the groups' configuration, makes the staged period current, counts the lost lines and takes
everything else to its reset value; the end of the reset sends WAKE_REQUEST and starts the wake timer. A reset that is
asserted already is no new reset (R173), and RESET_END outside reset is none (notes/assumptions/2.md). What stands
while the reset is asserted is the model's choice (notes/assumptions/4.md, 5.md, 11.md). -/
def Obligations.WarmResetKeeps : Prop :=
  (∀ s : State, s.resetPin = .released → ∃ u,
    exec .warmReset s = .next u ∧
    u = { State.reset with
          pending := s.pending, resetPin := .warm, downstreamOut := [], chipSelectLow := s.chipSelectLow,
          serialIn := s.serialIn, regions := s.regions, regs := s.regs, divider := s.divider, respLimitSeen := s.regs.respLimit,
          entries := u.entries, groups := u.groups, power := u.power, resetRecord := u.resetRecord } ∧
    (∀ e : EntryIx, u.entries[e] = .cleared s.entries[e].data) ∧
    (∀ g : GroupIx, u.groups[g] =
      { s.groups[g] with
        state := .idle, ageTimer := none, quietTimer := none, writeCount := 0, episode := .absent,
        pendingRelease := false }) ∧
    u.power =
      { state := .waking, attempt := 1, sleepCountdown := none, wakeTimer := none, notedWake := false,
        cycleOwed := false, staged := s.power.staged, current := s.power.staged,
        windowCountdown := if s.power.staged = 0 then none else some (s.power.staged.toNat * 100) } ∧
    u.resetRecord = { cause := .pin, lostLines := s.entries.countP fun x => x.state != .free } ∧
    (∀ r : Register, readOnly r = false → registerValue u r = registerValue s r)) ∧
  (∀ s : State, s.resetPin ≠ .released →
    exec .warmReset s = .next s ∧
    exec .resetEnd s = .next
      { s with
        resetPin := .released
        downstreamOut := s.downstreamOut ++ [.wakeRequest]
        power := { s.power with
                   state := .waking, attempt := 1, wakeTimer := some s.regs.wakeLimit.toNat } }) ∧
  (∀ s : State, s.resetPin = .released → exec .resetEnd s = .next s)

/-- The invariants below hold right after a power-on reset. That State.reset stands just after its end is the model's
choice (notes/assumptions/10.md). -/
def Obligations.ResetIsSound : Prop :=
  Bounded State.reset ∧ StoreSound State.reset ∧ FaultsSound State.reset ∧ GroupsSound State.reset ∧
    TagsFollowPower State.reset ∧ ReleasesOwned State.reset ∧ PowerSound State.reset ∧ RegistersSound State.reset ∧ TestsTaken State.reset

/-! ## What every step keeps -/

/-- R10, R68, R107, R127, R191: no list and no queue grows beyond its bound, the retry lists among them together with the
attempts of their kind in flight, and credits count free queue slots. -/
def Obligations.EveryStepKeepsTheBounds : Prop :=
  ∀ s t : State, Bounded s → step s = .next t → Bounded t

/-- R2 to R4, R12 to R14: the hold store's bookkeeping. -/
def Obligations.EveryStepKeepsTheStore : Prop :=
  ∀ s t : State, StoreSound s → step s = .next t → StoreSound t

/-- R1, R160, R161: the fault list and the FAULTED entries name each other. -/
def Obligations.EveryStepKeepsTheFaultList : Prop :=
  ∀ s t : State, FaultsSound s → step s = .next t → FaultsSound t

/-- R88, R90 to R92, R103: the group records. -/
def Obligations.EveryStepKeepsTheGroups : Prop :=
  ∀ s t : State, StoreSound s → GroupsSound s → step s = .next t → GroupsSound t

/-- R53, R113, R116, R124, R127: no tag is BUSY and no entry RELEASING outside AWAKE; and every BUSY slot that carries a
release names a RELEASING entry, no two the same, while a RELEASING entry without a slot is a release retry. -/
def Obligations.EveryStepKeepsTagsUnderPower : Prop :=
  (∀ s t : State, PowerSound s → TagsFollowPower s → step s = .next t → TagsFollowPower t) ∧
  ∀ s t : State, ReleasesOwned s → step s = .next t → ReleasesOwned t

/-- R136, R137, R148, R153, R158: the power record agrees with its state. -/
def Obligations.EveryStepKeepsThePowerRecord : Prop :=
  ∀ s t : State, PowerSound s → step s = .next t → PowerSound t

/-- 9.6, R26, R70, R86, R89, R114, R119, R126, R128, R146, R165, R167, R189: register values stay in their ranges and
region table entries stay ones that can be stored. -/
def Obligations.EveryStepKeepsTheRegisters : Prop :=
  ∀ s t : State, RegistersSound s → step s = .next t → RegistersSound t

/-- R60, R65, R106, R120, R139: between two steps every test is up to date: pressure as its start and end conditions give
it, the waits at queue heads, and the sleep countdown. That a STALL write whose wait has ended counts no longer as
waiting, so that pressure may end before the write is decided again, is the model's choice (notes/assumptions/8.md,
35.md; 6.10's last sentence has it otherwise); the readings of the waits are those of notes/assumptions/21.md and 23.md,
and that every transition ends with the idle test that carries the countdown is that of 31.md. -/
def Obligations.EveryStepTakesItsTests : Prop :=
  ∀ s t : State, PowerSound s → RegistersSound s → Bounded s → GroupsSound s → TestsTaken s → step s = .next t →
    TestsTaken t

/-- R3, 1.9: a command other than a pin reset takes an entry along the transition summary, keeps the line and the group
of an entry that stays non-FREE, and removes no position from its mask. -/
def Obligations.EntriesFollowTheTransitionSummary : Prop :=
  ∀ (c : Instr) (s t : State), c ≠ .powerOnReset → c ≠ .warmReset → exec c s = .next t → ∀ e : EntryIx,
    entryStep s.entries[e].state t.entries[e].state = true ∧
    (bound s.entries[e] → bound t.entries[e] →
      t.entries[e].line = s.entries[e].line ∧ t.entries[e].group = s.entries[e].group ∧
        ∀ p : Fin 64, s.entries[e].mask.getLsbD p.val = true → t.entries[e].mask.getLsbD p.val = true)

/-- R137, R149, R151: a command other than a pin reset takes the power state along the transitions of 7.1; UNAVAILABLE is
entered from WAKING at the wake timer's expiry alone, and left by RECOVER alone. -/
def Obligations.PowerFollowsItsTransitions : Prop :=
  ∀ (c : Instr) (s t : State), PowerSound s → c ≠ .powerOnReset → c ≠ .warmReset → exec c s = .next t →
    powerStep s.power.state t.power.state = true ∧
    (t.power.state = .unavailable → s.power.state = .unavailable ∨ c = .wakeTimerExpiry) ∧
    (s.power.state = .unavailable → t.power.state = .unavailable ∨ c = .recover)

/-- R115, R195: a LINE_READ or LINE_WRITE is sent by a grant alone, and a grant sends one at most. The log of what was
sent is the model's (notes/assumptions/4.md). -/
def Obligations.LineRequestsOnlyAtGrants : Prop :=
  ∀ (c : Instr) (s t : State), c ≠ .powerOnReset → c ≠ .warmReset → exec c s = .next t →
    ∃ sent : List DownMessage,
      t.downstreamOut.filter isLineRequest = s.downstreamOut.filter isLineRequest ++ sent ∧ sent.length ≤ 1 ∧
        (sent ≠ [] → c = .grant)

/-- The model's own (notes/assumptions/2.md, 6.md): while a reset is asserted only the resets and the chip select act,
and an event that is not due does nothing. A message kind that is defined is no UNDEFINED_DOWNSTREAM_MESSAGE. -/
def Obligations.NothingWhereNotDue : Prop :=
  (∀ (c : Instr) (s : State), s.resetPin ≠ .released → c ≠ .powerOnReset → c ≠ .resetEnd → c ≠ .frameStart →
    c ≠ .frameEnd → exec c s = .next s) ∧
  (∀ (i : InitIx) (s : State), (s.initiators[i].queue = [] ∨ s.initiators[i].head ≠ .undecided) →
    exec (.writeDecision i) s = .next s ∧ exec (.readDecision i) s = .next s ∧ exec (.drainDecision i) s = .next s) ∧
  (∀ (i : InitIx) (r : Request) (rest : List Request) (s : State), s.initiators[i].queue = r :: rest →
    (r.kind ≠ 1 → r.kind ≠ 3 → exec (.writeDecision i) s = .next s) ∧
    (r.kind ≠ 0 → r.kind ≠ 3 → exec (.readDecision i) s = .next s) ∧
    (r.kind ≠ 2 → r.kind ≠ 3 → exec (.drainDecision i) s = .next s)) ∧
  (∀ s : State, deferLimitMet s = false → exec .deferLimitReached s = .next s) ∧
  (∀ (k : TagIx) (s : State), (∀ (op : SlotOp) (a : Timestamp) (n : Nat), s.slots[k] = .busy op a n →
    timedOut s a = false) → exec (.slotTimeout k) s = .next s) ∧
  (∀ s : State, sleepDue s = false → exec .sleepCountdownExpiry s = .next s) ∧
  (∀ s : State, wakeTimerDue s = false → exec .wakeTimerExpiry s = .next s) ∧
  (∀ s : State, s.power.windowCountdown ≠ some 0 → exec .windowBoundary s = .next s) ∧
  (∀ (g : GroupIx) (s : State),
    (s.groups[g].state ≠ .holding ∨ ranFor s s.groups[g].ageTimer s.groups[g].ageLimit = false →
      exec (.ageTimerExpiry g) s = .next s) ∧
    (s.groups[g].state ≠ .holding ∨ s.groups[g].relMode ≠ .quiet ∨
        ranFor s s.groups[g].quietTimer s.groups[g].relValue = false →
      exec (.quietTimerExpiry g) s = .next s)) ∧
  (∀ (c : Instr) (s : State), frameOf c ≠ none → takesCommand s = false → exec c s = .next s) ∧
  (∀ (k : BitVec 3) (s : State), k ≠ 3 → k ≠ 7 → exec (.undefinedDownstreamMessage k) s = .next s)

/-- R175, R177, R197, 10.4: the frame bytes of a management command spell that command and no other, for every command
that has a frame and every frame that spells one. -/
def Obligations.FramesSpellTheirCommands : Prop :=
  ∀ (c : Instr) (b : Byte) (args : List Byte),
    (c.wf = true ∧ frameOf c = some (b, args)) ↔ decodeFrame b args = some c

/-! ## The shared operations -/

/-- R145: the controller takes a wake cause according to its power state. -/
def Obligations.WakeCauseTaken : Prop :=
  ∀ s : State, takeWake s =
    match s.power.state with
    | .entering => { s with power := { s.power with notedWake := true } }
    | .asleep =>
      { s with
        downstreamOut := s.downstreamOut ++ [.wakeRequest]
        power := { s.power with state := .waking, attempt := 1, wakeTimer := some s.regs.wakeLimit.toNat } }
    | .awake | .waking | .unavailable => s

/-- R60, R120, R121, R139: the tests that end a transition: pressure starts or ends as its conditions stand, with a
wake cause where it starts outside the halt; each wait that is over ends; the sleep countdown runs exactly while its
conditions hold, starts from SLEEP_DELAY and goes on where it ran. Nothing else changes. The order of the tests is the
model's choice (notes/assumptions/15.md, 31.md); the waits that end here are those not under STALL, whose end comes before
the tests (notes/assumptions/35.md). -/
def Obligations.SettleTakesTheTests : Prop :=
  ∀ s : State,
    let t := settle s
    let begins := !s.pressure && pressureStart s
    let w := if begins && !halted s then takeWake s else s
    TestsTaken t ∧
    t = { s with
          pressure := t.pressure, initiators := t.initiators, power := t.power, downstreamOut := w.downstreamOut } ∧
    t.pressure = (if s.pressure then !pressureEnd s else pressureStart s) ∧
    t.power =
      { w.power with
        sleepCountdown :=
          (if countdownRuns t then some (s.power.sleepCountdown.getD s.regs.sleepDelay.toNat) else none) } ∧
    ∀ i : InitIx,
      t.initiators[i].queue = s.initiators[i].queue ∧ t.initiators[i].tags = s.initiators[i].tags ∧
      t.initiators[i].credits = s.initiators[i].credits ∧
      (t.initiators[i].head = s.initiators[i].head ∨ t.initiators[i].head = .undecided) ∧
      (t.initiators[i].head ≠ s.initiators[i].head ↔
        ∃ r rest cause, s.initiators[i].queue = r :: rest ∧ s.initiators[i].head = .waiting cause ∧
          waitOver s r cause = true)

/-- R42, R43, R45, R49, R52, R60, R65, R106: when each wait at a queue head is over; a wait under STALL ends by the
events of R49 alone, all of them together. The readings of R21 and R49 are those of notes/assumptions/21.md and
23.md; that a wait's end leaves the head to be decided by a step of its own is the model's choice (8.md). -/
def Obligations.WaitsAndTheirEnds : Prop :=
  ∀ (s : State) (r : Request),
    (waitOver s r (.pendingRead false) = true ↔ ∀ p ∈ s.reads, lineOf p.address ≠ requestLine r) ∧
    (waitOver s r (.pendingRead true) = true ↔ (∀ p ∈ s.reads, lineOf p.address ≠ requestLine r) ∨
      ∀ e, lookup s (requestLine r) = some e → s.entries[e].state ≠ .releasing) ∧
    (waitOver s r .passThrough = true ↔ lineHasPass s (requestLine r) = false) ∧
    (waitOver s r .releasing = true ↔
      ∀ e, lookup s (requestLine r) = some e → s.entries[e].state ≠ .releasing) ∧
    (waitOver s r .waitersFull = true ↔
      ∀ e, lookup s (requestLine r) = some e → s.entries[e].state = .held → s.entries[e].waiters.length < 3) ∧
    waitOver s r .stall = false ∧
    (waitOver s r .readListFull = true ↔ s.reads.length < 12) ∧
    (waitOver s r .drainListFull = true ↔ s.drains.length < 4) ∧
    endStalls s = { s with initiators := (endStalls s).initiators } ∧
    ∀ i : InitIx, (endStalls s).initiators[i] =
      if s.initiators[i].head = .waiting .stall then { s.initiators[i] with head := .undecided } else s.initiators[i]

/-- R191, R192, R194: a response is sent with its initiator and tag, which leaves the outstanding set in the same
transition; a request that leaves its queue returns its credit, after its response if it has one. That the response
stands before the credit is the model's choice (notes/assumptions/4.md). -/
def Obligations.AnswersAndCredits : Prop :=
  ∀ (i : InitIx) (tag : UpTag) (x : Response) (s : State),
    (∃ u, respond i tag x s = u ∧
      u = { s with
            upstreamOut := s.upstreamOut ++ [.response (BitVec.ofNat 3 i.val) tag x], initiators := u.initiators } ∧
      ∀ j : InitIx,
        u.initiators[j] = { s.initiators[j] with tags := u.initiators[j].tags } ∧
        ∀ n : UpTag, u.initiators[j].tags.getLsbD n.toNat =
          (s.initiators[j].tags.getLsbD n.toNat && !(decide (j = i) && decide (n = tag)))) ∧
    popHead i s =
      { s with
        upstreamOut := s.upstreamOut ++ [.credit i]
        initiators := s.initiators.set i
          { s.initiators[i] with
            queue := s.initiators[i].queue.tail, head := .undecided, credits := s.initiators[i].credits + 1 } } ∧
    answerHead i tag x s = popHead i (respond i tag x s)

/-! ## Release requests, episodes and triggers -/

/-- R100, R101, R103, R108: a release request of an active group reaches the group and its companions that are HOLDING
with a HELD entry, and sets the mark of each; its wake is posted, owed as a pending release, or not wanted in AWAKE. A
drain's requests do the same for its named active groups together, but their wake is owed under the halt alone; then the
episode end test of each reached group is taken, which ends at once the episode of a group with no covered HELD or
RELEASING entry and retires the drains that wait for nothing more. No other episode ends by it. That a drain's marks all
come before its one wake is the model's reading (notes/assumptions/18.md). -/
def Obligations.ReleaseRequestMarks : Prop :=
  (∀ (s : State) (g j : GroupIx), j ∈ reached s g ↔
    j = g ∨ (s.groups[g].companions.getLsbD j.val = true ∧ s.groups[j].state = .holding ∧
      0 < s.counts.groupHeld[j])) ∧
  (∀ (s : State) (g : GroupIx), s.seqCounter = 0 ∨ active s g = false → releaseRequest g s = s) ∧
  (∀ (s : State) (g : GroupIx) (m : Seq), newest s = some m → active s g = true →
    (∀ j ∈ reached s g, ∃ e : EntryIx,
      s.entries[e].state = .held ∧ s.entries[e].group = j ∧ s.entries[e].seq ≤ m) →
    let deferred := halted s || (windowMode s && s.power.state == .asleep)
    let owes := fun x : Group =>
      if deferred then true else if s.power.state = .awake then false else x.pendingRelease
    ∃ u, u = { s with groups := u.groups } ∧
      (∀ j : GroupIx, u.groups[j] =
        if j ∈ reached s g then
          { s.groups[j] with episode := .mark m, pendingRelease := owes s.groups[j] }
        else s.groups[j]) ∧
      releaseRequest g s = if deferred then u else takeWake u) ∧
  ∀ (s : State) (groups : BitVec 4) (m : Seq), newest s = some m →
    let order := ((List.finRange 4).filter fun g : GroupIx => groups.getLsbD g.val && active s g).flatMap (reached s)
    let covered := fun j : GroupIx =>
      ∃ e : EntryIx, s.entries[e].state = .held ∧ s.entries[e].group = j ∧ s.entries[e].seq ≤ m
    let waits := fun j : GroupIx =>
      ∃ e : EntryIx, (s.entries[e].state = .held ∨ s.entries[e].state = .releasing) ∧ s.entries[e].group = j ∧
        s.entries[e].seq ≤ m
    ∃ u w, u = { s with groups := u.groups } ∧
      (∀ j : GroupIx,
        (j ∈ order → ∃ p, u.groups[j] = { s.groups[j] with episode := .mark m, pendingRelease := p } ∧
          (p = true ↔ s.groups[j].pendingRelease = true ∨ (halted s = true ∧ covered j))) ∧
        (j ∉ order → u.groups[j] = s.groups[j])) ∧
      ((halted s = true ∨ ∀ j ∈ order, ¬covered j) → w = u) ∧
      (halted s = false → (∃ j ∈ order, covered j) → w = takeWake u) ∧
      drainRequests groups s = order.foldl (fun t j => testEpisode j t) w ∧
      ((∀ j ∈ order, waits j) → drainRequests groups s = w) ∧
      let t := drainRequests groups s
      (∀ j : GroupIx, j ∉ order ∨ waits j → t.groups[j] = w.groups[j]) ∧
      (∀ j ∈ order, ¬waits j →
        (s.groups[j].state = .holding → t.groups[j] =
          { s.groups[j] with
            episode := .absent, writeCount := 0, pendingRelease := false
            ageTimer := if s.counts.groupHeld[j] = 0 then none else some s.timestamp }) ∧
        (s.groups[j].state = .closing → t.events.getLsbD (8 + j.val) = true ∧ t.groups[j] =
          { s.groups[j] with
            state := .closed, episode := .absent, writeCount := 0, pendingRelease := false, ageTimer := none
            quietTimer := none })) ∧
      ∀ d : Drain, d ∈ t.drains ↔ d ∈ s.drains ∧ ∀ j ∈ order, ¬waits j → drainRetires s j d = false

/-- R92, R103, R104, R109: an episode ends when no HELD or RELEASING entry of its group is at or below its mark: the group
record is put to rest, a CLOSING group goes to CLOSED and raises GROUP_CLOSED; then the drains that name the group and
wait for no HELD or RELEASING entry leave the list, answered in list order with ERROR DRAIN_FAULT where a covered entry
is FAULTED and with DONE otherwise. -/
def Obligations.EpisodesEndAndDrainsRetire : Prop :=
  (∀ (s : State) (g : GroupIx), s.groups[g].episode = .absent → testEpisode g s = s) ∧
  (∀ (s : State) (g : GroupIx) (m : Seq) (e : EntryIx), s.groups[g].episode = .mark m →
    (s.entries[e].state = .held ∨ s.entries[e].state = .releasing) → s.entries[e].group = g →
    s.entries[e].seq ≤ m → testEpisode g s = s) ∧
  (∀ (s : State) (g : GroupIx), s.groups[g].episode ≠ .absent →
    (∀ (m : Seq) (e : EntryIx), s.groups[g].episode = .mark m → s.entries[e].group = g → s.entries[e].seq ≤ m →
      s.entries[e].state ≠ .held ∧ s.entries[e].state ≠ .releasing) →
    let x := { s.groups[g] with episode := .absent, writeCount := 0, pendingRelease := false }
    (s.groups[g].state = .holding → testEpisode g s = testDrains g
      (setGroup g { x with ageTimer := if s.counts.groupHeld[g] = 0 then none else some s.timestamp } s)) ∧
    (s.groups[g].state = .closing → testEpisode g s = testDrains g
      { setGroup g { x with state := .closed, ageTimer := none, quietTimer := none } s with
        events := s.events ||| (0x0100 <<< g.val) })) ∧
  (∀ (s : State) (g : GroupIx) (d : Drain), drainRetires s g d = true ↔
    d.groups.getLsbD g.val = true ∧
      ∀ e : EntryIx, d.groups.getLsbD s.entries[e].group.val = true → s.entries[e].seq ≤ d.mark →
        s.entries[e].state ≠ .held ∧ s.entries[e].state ≠ .releasing) ∧
  (∀ (s : State) (g : GroupIx),
    let t := testDrains g s
    t = { s with drains := t.drains, upstreamOut := t.upstreamOut, initiators := t.initiators } ∧
    t.drains = s.drains.filter (fun d => !drainRetires s g d) ∧
    t.upstreamOut = s.upstreamOut ++ (s.drains.filter (drainRetires s g)).map (fun d =>
      .response (BitVec.ofNat 3 d.initiator.val) d.tag
        (if s.entries.any fun x => x.state == .faulted && d.groups.getLsbD x.group.val && x.seq ≤ d.mark
          then .error .drainFault else .done)) ∧
    ∀ i : InitIx,
      t.initiators[i] = { s.initiators[i] with tags := t.initiators[i].tags } ∧
      ∀ n : UpTag, t.initiators[i].tags.getLsbD n.toNat =
        (s.initiators[i].tags.getLsbD n.toNat &&
          !((s.drains.filter (drainRetires s g)).any fun d => d.initiator == i && d.tag == n)))

/-- R94 to R98: a write accepted into a HOLDING group restarts its quiet timer and advances its write count, which makes a
release request where it reaches REL_VALUE in COUNT mode; a rise of its HELD count starts its age timer from 0 to 1 and
makes a release request at its line limit. The record of a group in another state does not change. -/
def Obligations.TriggersOfAGroup : Prop :=
  ∀ (s : State) (g : GroupIx),
    (s.groups[g].state ≠ .holding → writeReport g s = s ∧ heldRose g s = s) ∧
    (s.groups[g].state = .holding →
      (∃ n : BitVec 16, n.toNat = min (s.groups[g].writeCount.toNat + 1) 65535 ∧
        let t := setGroup g { s.groups[g] with quietTimer := some s.timestamp, writeCount := n } s
        (s.groups[g].relMode = .count ∧ s.groups[g].writeCount.toNat + 1 = s.groups[g].relValue.toNat →
          writeReport g s = releaseRequest g t) ∧
        (s.groups[g].relMode ≠ .count ∨ s.groups[g].writeCount.toNat + 1 ≠ s.groups[g].relValue.toNat →
          writeReport g s = t)) ∧
      (∃ t, t = (if s.counts.groupHeld[g] = 1 ∧ s.groups[g].ageTimer = none then
            setGroup g { s.groups[g] with ageTimer := some s.timestamp } s
          else s) ∧
        (s.counts.groupHeld[g] ≠ 0 ∧ s.counts.groupHeld[g] = s.groups[g].lineLimit.toNat →
          heldRose g s = releaseRequest g t) ∧
        (s.counts.groupHeld[g] ≠ s.groups[g].lineLimit.toNat ∨ s.groups[g].lineLimit = 0 → heldRose g s = t)))

/-! ## Regions, lookup and arrival -/

/-- R29: the matching entry is the valid entry of the lowest index that contains the address; an unmatched request is
classified PASS and URGENT, with no durable default. -/
def Obligations.MatchingRegion : Prop :=
  ∀ (s : State) (r : Request),
    (∀ x : Region, matchingRegion s r.address = some x ↔
      ∃ k : RegionIx, s.regions[k] = x ∧ x.valid = true ∧ x.base.toNat ≤ r.address.toNat ∧
        r.address.toNat < x.base.toNat + 2 ^ x.sizeLog ∧
        ∀ j : RegionIx, j < k → s.regions[j].valid = true → contains s.regions[j] r.address = false) ∧
    (matchingRegion s r.address = none ↔
      ∀ k : RegionIx, s.regions[k].valid = true → contains s.regions[k] r.address = false) ∧
    (matchingRegion s r.address = none →
      requestPolicy s r = .pass ∧ requestClass s r = .urgent ∧ requestDurable s r = hasDurable r)

/-- R31, R32: what the matching entry and a request's attributes give: the policy, the read class of a matched READ and
the durable field of a matched WRITE. -/
def Obligations.Classification : Prop :=
  ∀ (s : State) (r : Request) (x : Region), matchingRegion s r.address = some x →
    requestPolicy s r = x.policy ∧
    (requestClass s r = .urgent ↔ x.readClass = .urgent ∨ r.attributes.getLsbD 1 = true) ∧
    (requestDurable s r = true ↔ r.attributes.getLsbD 0 = true ∨ ∃ g, x.policy = .hold g true)

/-- R28: every region is aligned to its size of 4 KiB or more, so all bytes of a line lie in the same set of regions. -/
def Obligations.RegionsHoldWholeLines : Prop :=
  ∀ (s : State) (k : RegionIx) (a b : Addr), RegistersSound s → s.regions[k].valid = true → lineOf a = lineOf b →
    contains s.regions[k] a = contains s.regions[k] b

/-- R4, R42, R43: lookup finds the non-FREE entry that carries the line, of which there is one at most; the positions a
request asks for run from its offset for its length, with its bytes placed there; a line has an outstanding pass-through
write while one waits at a head, is in flight or awaits a retry. -/
def Obligations.LookupAndLineOrder : Prop :=
  (∀ (s : State) (l : LineAddr), StoreSound s →
    (lookup s l = none ↔ ∀ e : EntryIx, s.entries[e].state ≠ .free → s.entries[e].line ≠ l) ∧
    ∀ e : EntryIx, lookup s l = some e ↔ s.entries[e].state ≠ .free ∧ s.entries[e].line = l) ∧
  (∀ (a : Addr) (n : Nat) (bs : List Byte) (p : Fin 64),
    ((positions a n).getLsbD p.val = true ↔ a.toNat % 64 ≤ p.val ∧ p.val < a.toNat % 64 + n) ∧
    ∀ k, k < bs.length → p.val = a.toNat % 64 + k → bs[k]? = some (placed a bs)[p]) ∧
  (∀ (s : State) (l : LineAddr), lineHasPass s l = true ↔
    (∃ (i : InitIx) (r : Request) (rest : List Request), s.initiators[i].head = .passThrough ∧
      s.initiators[i].queue = r :: rest ∧ lineOf r.address = l) ∨
    (∃ (k : TagIx) (w : PassWrite) (a : Timestamp) (n : Nat), s.slots[k] = .busy (.pass w) a n ∧
      lineOf w.address = l) ∨
    ∃ p ∈ s.passRetries, lineOf p.write.address = l)

/-- R191, R192: a request joins its queue and spends a credit, or is discarded: with no response beyond the queue's 4
slots, with its credit returned where its tag is outstanding; initiators 6 and 7 are answered ERROR MALFORMED. -/
def Obligations.ArrivalQueuedOrDiscarded : Prop :=
  ∀ (r : Request) (s : State), s.resetPin = .released →
    (∀ i : InitIx, r.initiator.toNat = i.val →
      exec (.upstreamRequest r) s = .next
        (if 4 ≤ s.initiators[i].queue.length then { s with events := s.events ||| 0x0020 }
        else if s.initiators[i].tags.getLsbD r.tag.toNat then
          { s with events := s.events ||| 0x0020, upstreamOut := s.upstreamOut ++ [.credit i] }
        else
          { s with
            initiators := s.initiators.set i
              { s.initiators[i] with
                queue := s.initiators[i].queue ++ [r]
                tags := s.initiators[i].tags ||| (1#16 <<< r.tag.toNat)
                credits := s.initiators[i].credits - 1 } })) ∧
    (6 ≤ r.initiator.toNat →
      exec (.upstreamRequest r) s = .next
        { s with
          events := s.events ||| 0x0020
          upstreamOut := s.upstreamOut ++ [.response r.initiator r.tag (.error .malformed)] })

/-! ## Decisions at queue heads -/

/-- R33, R34, R193: what makes a request malformed; a malformed request is answered ERROR MALFORMED and raises PROTOCOL (a
request of the undefined kind whichever decision row takes it, notes/assumptions/7.md); a request in a BLOCK region is
answered ERROR BLOCKED. That each response stands before the credit is the model's choice (notes/assumptions/4.md). -/
def Obligations.RefusedAtTheHead : Prop :=
  (∀ r : Request, malformed r = true ↔
    r.kind = 3 ∨
    ((r.kind = 0 ∨ r.kind = 1) ∧
      (r.length = 0 ∨ 64 < r.length.toNat ∨ 64 < r.address.toNat % 64 + r.length.toNat ∨ r.groups ≠ 0)) ∨
    (r.kind = 0 ∧ (r.attributes.getLsbD 0 = true ∨ r.data ≠ [])) ∨
    (r.kind = 1 ∧ r.data.length ≠ r.length.toNat) ∨
    (r.kind = 2 ∧ (r.length ≠ 0 ∨ r.attributes ≠ 0 ∨ r.data ≠ []))) ∧
  ∀ (i : InitIx) (r : Request) (s : State), AtHead s i r →
    (malformed r = true →
      let t := settle (raise .protocol (answerHead i r.tag (.error .malformed) s))
      ((isRead r = true ∨ r.kind = 3) → exec (.readDecision i) s = .next t) ∧
      ((isWrite r = true ∨ r.kind = 3) → exec (.writeDecision i) s = .next t) ∧
      ((isDrain r = true ∨ r.kind = 3) → exec (.drainDecision i) s = .next t)) ∧
    (malformed r = false → requestPolicy s r = .block →
      let t := settle (answerHead i r.tag (.error .blocked) s)
      (isRead r = true → exec (.readDecision i) s = .next t) ∧
      (isWrite r = true → exec (.writeDecision i) s = .next t))

/-- R46, R67: a write or read of a FAULTED line is answered ERROR FAULTED_LINE and leaves its queue; nothing else of the
part changes but the tests that follow every decision. That the response stands before the credit is the model's choice
(notes/assumptions/4.md). -/
def Obligations.FaultedLineRefused : Prop :=
  ∀ (i : InitIx) (r : Request) (e : EntryIx) (s : State), lookup s (requestLine r) = some e →
    s.entries[e].state = .faulted →
    let t := settle (answerHead i r.tag (.error .faultedLine) s)
    (WriteAdmitted s i r → exec (.writeDecision i) s = .next t) ∧
    (ReadAdmitted s i r → exec (.readDecision i) s = .next t) ∧
    t.entries = s.entries ∧ t.faults = s.faults ∧ t.faultOrder = s.faultOrder ∧ t.counts = s.counts ∧
    t.ageList = s.ageList ∧ t.groups = s.groups ∧ t.counters = s.counters ∧ t.reads = s.reads ∧
    (AtHead s i r → TestsTaken s → t.pressure = s.pressure ∧ t.downstreamOut = s.downstreamOut ∧
      t.power = { s.power with sleepCountdown := t.power.sleepCountdown })

/-- R9, R44, R51: a write of a HELD line is merged: its bytes and positions join the entry, the merge count advances,
and the entry's group is told. A posted write is answered DONE at once; a durable write joins the waiters and sets
expedite, which is a wake cause where it was not set. The order inside the transition, the response before the credit,
and the reading of R51 are the model's (notes/assumptions/4.md, 15.md, 19.md). -/
def Obligations.WriteMerges : Prop :=
  ∀ (i : InitIx) (r : Request) (e : EntryIx) (s : State), WriteAdmitted s i r →
    lookup s (requestLine r) = some e → s.entries[e].state = .held →
    let x := s.entries[e]
    ∃ y : Entry,
      y = { x with mask := x.mask ||| requestMask r, data := y.data, merges := y.merges } ∧
      y.merges.toNat = min (x.merges.toNat + 1) 65535 ∧
      (∀ p : Fin 64, y.data[p] = if (requestMask r).getLsbD p.val then (requestBytes r)[p] else x.data[p]) ∧
      (requestDurable s r = false →
        exec (.writeDecision i) s = .next
          (settle (writeReport x.group (answerHead i r.tag .done (setEntry e y s))))) ∧
      (requestDurable s r = true → s.power.state ≠ .unavailable → x.waiters.length < 3 →
        let z := { y with waiters := x.waiters ++ [{ initiator := i, tag := r.tag }], expedite := true }
        let u := popHead i (setEntry e z s)
        exec (.writeDecision i) s = .next
          (settle (writeReport x.group (if x.expedite then u else takeWake u))))

/-- R6, R12, R13, R14, R47, R51: a write that misses in a HOLD region of a HOLDING group allocates the lowest-indexed
FREE entry, with the next sequence number at the age list's tail. A posted write is answered DONE at once; a durable
write is the entry's sole waiter with expedite set, a wake cause. The order inside the transition, the response before
the credit, is the model's choice (notes/assumptions/4.md, 15.md). -/
def Obligations.WriteAllocates : Prop :=
  ∀ (i : InitIx) (r : Request) (g : GroupIx) (e : EntryIx) (s : State), WriteMisses s i r → Holds s r g →
    s.seqCounter ≠ BitVec.allOnes 48 → LowestFree s e →
    (requestDurable s r = true → s.power.state ≠ .unavailable) →
    let durable := requestDurable s r
    ∃ u, u = { s with
          entries := u.entries, ageList := s.ageList ++ [e], seqCounter := s.seqCounter + 1
          counts := { s.counts with
            held := s.counts.held + 1, groupHeld := s.counts.groupHeld.set g (s.counts.groupHeld[g] + 1) } } ∧
      (∀ f : EntryIx, f ≠ e → u.entries[f] = s.entries[f]) ∧
      u.entries[e] =
        { state := .held, line := requestLine r, group := g, mask := requestMask r, data := u.entries[e].data,
          seq := s.seqCounter, allocTime := s.timestamp, merges := 0, expedite := durable,
          waiters := if durable then [{ initiator := i, tag := r.tag }] else [], attempts := 0, lastCause := none,
          faultSlot := none } ∧
      (∀ p : Fin 64, u.entries[e].data[p] =
        if (requestMask r).getLsbD p.val then (requestBytes r)[p] else s.entries[e].data[p]) ∧
      exec (.writeDecision i) s = .next
        (settle (writeReport g (heldRose g
          (if durable then takeWake (popHead i u) else answerHead i r.tag .done u))))

/-- R42, R43, R45, R49, R52, R65: a head that must wait keeps its place, its slot and its tag; its decision sets the wait
alone, and the tests that end a transition follow (SettleTakesTheTests), which start pressure and its wake for a wait
under STALL (R49, R120, R121). That the decision is a step of its own is the model's choice (notes/assumptions/8.md), and
that a wait on a read also notes a RELEASING entry is its reading (21.md). -/
def Obligations.HeadsThatWait : Prop :=
  ∀ (i : InitIx) (r : Request) (s : State), Admitted s i r →
    let waits := fun cause => Host.Outcome.next (φ := Fault) (ρ := Refusal) (settle (setHead i (.waiting cause) s))
    (isWrite r = true → lineHasRead s (requestLine r) = true →
      exec (.writeDecision i) s = waits (.pendingRead (lineIn s (requestLine r) .releasing))) ∧
    (isWrite r = true → lineHasRead s (requestLine r) = false → lineHasPass s (requestLine r) = true →
      exec (.writeDecision i) s = waits .passThrough) ∧
    (∀ e : EntryIx, WriteAdmitted s i r → lookup s (requestLine r) = some e → s.entries[e].state = .releasing →
      exec (.writeDecision i) s = waits .releasing) ∧
    (∀ e : EntryIx, WriteAdmitted s i r → lookup s (requestLine r) = some e → s.entries[e].state = .held →
      requestDurable s r = true → s.power.state ≠ .unavailable → 3 ≤ s.entries[e].waiters.length →
      exec (.writeDecision i) s = waits .waitersFull) ∧
    (∀ g : GroupIx, WriteMisses s i r → Holds s r g → AllocationFails s → s.power.state ≠ .unavailable →
      s.regs.fullPolicy = .stall → exec (.writeDecision i) s = waits .stall) ∧
    (isRead r = true → lineHasPass s (requestLine r) = true → exec (.readDecision i) s = waits .passThrough) ∧
    (ReadAdmitted s i r → NeedsMemory s r → s.power.state ≠ .unavailable → 12 ≤ s.reads.length →
      exec (.readDecision i) s = waits .readListFull)

/-- R35, R47, R50, R54: a write that misses outside a HOLDING group's regions becomes a pass-through write, which waits at
its head and posts a wake cause; under THROUGH a failed allocation does so too and counts in THROUGH_WRITES. -/
def Obligations.WritePassesThrough : Prop :=
  ∀ (i : InitIx) (r : Request) (s : State), WriteMisses s i r → s.power.state ≠ .unavailable →
    ((∀ g : GroupIx, ¬Holds s r g) →
      exec (.writeDecision i) s = .next (settle (takeWake (setHead i .passThrough s)))) ∧
    (∀ g : GroupIx, Holds s r g → AllocationFails s → s.regs.fullPolicy = .through →
      exec (.writeDecision i) s = .next (settle (takeWake (setHead i .passThrough
        { s with counters := { s.counters with throughWrites := s.counters.throughWrites + 1 } }))))

/-- R61, R83, R106: in UNAVAILABLE a durable write, a write that cannot be held, a read that needs memory and a drain that
would wait are answered ERROR UNAVAILABLE; the part's records are left as they are. That the response stands before the
credit is the model's choice (notes/assumptions/4.md). -/
def Obligations.UnavailableRefusals : Prop :=
  ∀ (i : InitIx) (r : Request) (s : State), s.power.state = .unavailable →
    let t := settle (answerHead i r.tag (.error .unavailable) s)
    (∀ e : EntryIx, WriteAdmitted s i r → lookup s (requestLine r) = some e → s.entries[e].state = .held →
      requestDurable s r = true → exec (.writeDecision i) s = .next t) ∧
    (∀ g : GroupIx, WriteMisses s i r → Holds s r g → (AllocationFails s ∨ requestDurable s r = true) →
      exec (.writeDecision i) s = .next t) ∧
    (WriteMisses s i r → (∀ g : GroupIx, ¬Holds s r g) → exec (.writeDecision i) s = .next t) ∧
    (ReadAdmitted s i r → NeedsMemory s r → exec (.readDecision i) s = .next t) ∧
    (∀ m : Seq, AtHead s i r → isDrain r = true → malformed r = false → newest s = some m →
      drainHeldUp s r.groups m = true → exec (.drainDecision i) s = .next t)

/-- R66: a read whose bytes all lie in a HELD or RELEASING entry is answered DATA from it, in every power state, and counts
in FULL_HITS; the entry is not changed. That the response stands before the credit is the model's choice
(notes/assumptions/4.md). -/
def Obligations.FullHitAnswered : Prop :=
  ∀ (i : InitIx) (r : Request) (e : EntryIx) (s : State), ReadAdmitted s i r →
    lookup s (requestLine r) = some e → (s.entries[e].state = .held ∨ s.entries[e].state = .releasing) →
    (∀ p : Nat, (requestMask r).getLsbD p = true → s.entries[e].mask.getLsbD p = true) →
    ∃ bs : List Byte, bs.length = r.length.toNat ∧
      (∀ (k : Nat) (p : Fin 64), k < bs.length → p.val = r.address.toNat % 64 + k →
        bs[k]? = some s.entries[e].data[p]) ∧
      exec (.readDecision i) s = .next (settle
        { answerHead i r.tag (.data bs) s with
          counters := { s.counters with fullHits := s.counters.fullHits + 1 } })

/-- R64, R68 to R72: a read that needs memory joins the tail of the pending read list, in the state and class that R69 and
R70 give; the wake causes of the read path that then stand are taken. -/
def Obligations.ReadEntersTheList : Prop :=
  ∀ (i : InitIx) (r : Request) (s : State), ReadAdmitted s i r → NeedsMemory s r →
    s.power.state ≠ .unavailable → s.reads.length < 12 →
    let cls := if s.regs.deferLimit = 0 then .urgent else requestClass s r
    let st : ReadState :=
      if lineIn s (requestLine r) .releasing then .waitRelease
      else if s.power.state = .awake ∨ cls = .urgent then .ready else .deferred
    let u := popHead i
      { s with reads := s.reads ++
          [{ initiator := i, tag := r.tag, address := r.address, length := r.length, readClass := cls,
             arrival := s.timestamp, state := st, attempts := 0, slot := none }] }
    exec (.readDecision i) s = .next (settle (if urgentStands u || deferredStand u then takeWake u else u))

/-- R106 to R109: a drain that covers no HELD or RELEASING entry is answered at once, ERROR DRAIN_FAULT where it covers a
FAULTED one and DONE otherwise; one that must wait enters the list with its mark and makes its release requests, or waits
at its head while the list holds 4 records. That a response stands before the credit, and how the requests share one
wake, are the model's (notes/assumptions/4.md, 18.md). -/
def Obligations.DrainDecided : Prop :=
  ∀ (i : InitIx) (r : Request) (s : State), AtHead s i r → isDrain r = true → malformed r = false →
    (r.groups = 0 ∨ s.seqCounter = 0 → exec (.drainDecision i) s = .next (settle (answerHead i r.tag .done s))) ∧
    (∀ m : Seq, s.seqCounter = m + 1 → s.seqCounter ≠ 0 → r.groups ≠ 0 →
      let covers := fun e : EntryIx => r.groups.getLsbD s.entries[e].group.val = true ∧ s.entries[e].seq ≤ m
      let holds := ∃ e : EntryIx, covers e ∧ (s.entries[e].state = .held ∨ s.entries[e].state = .releasing)
      (¬holds → (∃ e : EntryIx, covers e ∧ s.entries[e].state = .faulted) →
        exec (.drainDecision i) s = .next (settle (answerHead i r.tag (.error .drainFault) s))) ∧
      (¬holds → (∀ e : EntryIx, covers e → s.entries[e].state ≠ .faulted) →
        exec (.drainDecision i) s = .next (settle (answerHead i r.tag .done s))) ∧
      (holds → s.power.state ≠ .unavailable → 4 ≤ s.drains.length →
        exec (.drainDecision i) s = .next (settle (setHead i (.waiting .drainListFull) s))) ∧
      (holds → s.power.state ≠ .unavailable → s.drains.length < 4 →
        exec (.drainDecision i) s = .next (settle (drainRequests r.groups (popHead i
          { s with drains := s.drains ++
            [{ initiator := i, tag := r.tag, groups := r.groups, mark := m, arrival := s.timestamp }] })))))

/-! ## The downstream port -/

/-- R74, R118, R122, R123, R133: the next grant goes to the first of the presented requests: reads, then pass-through
writes, then release writes, or release writes first under pressure; each source in its own order. The startable entries
are the due HELD entries that no READY, ISSUED or RETRY_WAIT read of their line holds off (R16, R117). -/
def Obligations.PresentedOrder : Prop :=
  ∀ s : State,
    let reads := s.reads.filter (readIs .urgent .retryWait) ++ s.reads.filter (readIs .urgent .ready) ++
      s.reads.filter (readIs .deferrable .retryWait) ++ s.reads.filter (readIs .deferrable .ready)
    let heads := (List.finRange 6).filterMap fun i =>
      if s.initiators[i].head = .passThrough then s.initiators[i].queue.head?.map (Presented.passNew i) else none
    let first := s.ageList.filter (fun e => startable s e && s.entries[e].expedite) ++
      s.ageList.filter (fun e => startable s e && !s.entries[e].expedite)
    let fromReads := reads.map Presented.read
    let fromWrites := s.passRetries.map Presented.passRetry ++ heads
    let fromReleases := s.releaseRetries.map Presented.releaseRetry ++
      if 6 ≤ s.faultOrder.length then [] else first.map Presented.releaseNew
    presented s =
      (if s.pressure then fromReleases ++ fromReads ++ fromWrites else fromReads ++ fromWrites ++ fromReleases).head? ∧
    ∀ e : EntryIx, startable s e = true ↔
      s.entries[e].state = .held ∧
      (s.entries[e].expedite = true ∨ s.pressure = true ∨
        ∃ m, s.groups[s.entries[e].group].episode = .mark m ∧ s.entries[e].seq ≤ m) ∧
      ∀ r ∈ s.reads, lineOf r.address = s.entries[e].line →
        r.state ≠ .ready ∧ r.state ≠ .issued ∧ r.state ≠ .retryWait

/-- R15, R55, R76, R80, R114, R115, R122, R124, R127: a grant is made while the power state is AWAKE, the tags in use are
below the credit limit and a request is presented. It takes the lowest-numbered FREE slot, marks it BUSY at the current
timestamp, and sends the request's LINE_READ or LINE_WRITE. -/
def Obligations.GrantIssues : Prop :=
  ∀ s : State, s.resetPin = .released →
    let inUse := s.slots.countP fun x => x != .free
    ((s.power.state ≠ .awake ∨ s.regs.creditLimit.toNat ≤ inUse ∨ presented s = none) →
      exec .grant s = .next s) ∧
    (RegistersSound s → s.power.state = .awake → inUse < s.regs.creditLimit.toNat →
      ∃ k : TagIx, s.slots[k] = .free ∧ (∀ j : TagIx, j < k → s.slots[j] ≠ .free) ∧
        ∀ p, presented s = some p →
          let issue := fun (op : SlotOp) (n : Nat) (m : DownMessage) =>
            { s with
              slots := s.slots.set k (.busy op s.timestamp n), downstreamOut := s.downstreamOut ++ [m] }
          let release := fun e : EntryIx =>
            DownMessage.lineWrite k s.entries[e].line s.entries[e].mask
              (masked s.entries[e].mask s.entries[e].data)
          exec .grant s = .next (settle
            (match p with
            | .read r =>
              { issue (.read r.initiator r.tag) (r.attempts + 1) (.lineRead k (lineOf r.address)) with
                reads := s.reads.map fun q =>
                  if q.initiator = r.initiator ∧ q.tag = r.tag then { q with state := .issued, slot := some k }
                  else q }
            | .passRetry x =>
              { issue (.pass x.write) (x.failed + 1)
                  (.lineWrite k (lineOf x.write.address) x.write.mask (masked x.write.mask x.write.bytes)) with
                passRetries := s.passRetries.tail }
            | .passNew i r =>
              popHead i (issue
                (.pass { initiator := i, tag := r.tag, address := r.address, mask := requestMask r,
                         bytes := requestBytes r }) 1
                (.lineWrite k (lineOf r.address) (requestMask r) (masked (requestMask r) (requestBytes r))))
            | .releaseRetry e =>
              { issue (.release e) (s.entries[e].attempts + 1) (release e) with
                releaseRetries := s.releaseRetries.tail }
            | .releaseNew e =>
              { issue (.release e) 1 (release e) with
                entries := s.entries.set e { s.entries[e] with state := .releasing, attempts := 0 }
                ageList := s.ageList.erase e
                counts :=
                  { s.counts with
                    held := s.counts.held - 1, releasing := s.counts.releasing + 1
                    groupHeld := s.counts.groupHeld.set s.entries[e].group
                      (s.counts.groupHeld[s.entries[e].group] - 1) } })))

/-- R77 to R79, R125, R128: a read's attempt ends. Well: its line, overlaid with the line's HELD entry, answers it DATA.
Ill, by a POISON, a FAIL, bytes other than 64 or a timeout: it goes to RETRY_WAIT while attempts are left, and else is
answered ERROR MEMORY with READ_FAILED raised. When a timeout is due, and what other byte counts are taken as, are the
model's readings (notes/assumptions/5.md, 13.md, 22.md). -/
def Obligations.ReadAttemptEnds : Prop :=
  ∀ (k : TagIx) (i : InitIx) (tag : UpTag) (n : Nat) (s : State) (r : PendingRead),
    s.reads.find? (isReadOf i tag) = some r →
    let left := s.reads.filter fun q => !(decide (q.initiator = i) && decide (q.tag = tag))
    (∀ (a : Timestamp) (l : Line), s.resetPin = .released → s.slots[k] = .busy (.read i tag) a n →
      ∃ bs : List Byte, bs.length = r.length.toNat ∧
        (∀ (j : Nat) (p : Fin 64), j < bs.length → p.val = r.address.toNat % 64 + j →
          ((∃ e : EntryIx, lookup s (lineOf r.address) = some e ∧ s.entries[e].state = .held ∧
              s.entries[e].mask.getLsbD p.val = true ∧ bs[j]? = some s.entries[e].data[p]) ∨
            ((∀ e : EntryIx, lookup s (lineOf r.address) = some e → s.entries[e].state = .held →
              s.entries[e].mask.getLsbD p.val = false) ∧ bs[j]? = some l[p]))) ∧
        exec (.completeOk k l.toList) s =
          .next (settle (respond i tag (.data bs) { s with slots := s.slots.set k .free, reads := left }))) ∧
    (∀ (c : Instr) (cause : FailCause) (v : State), AttemptFails s k (.read i tag) n c cause v →
      let w := { v with counters := { s.counters with retries := s.counters.retries + 1 } }
      (r.attempts < s.regs.rdRetry.toNat →
        exec c s = .next (settle
          { w with reads := s.reads.map fun q =>
              if q.initiator = i ∧ q.tag = tag then
                { q with state := .retryWait, attempts := q.attempts + 1, slot := none }
              else q })) ∧
      (s.regs.rdRetry.toNat ≤ r.attempts →
        exec c s = .next (settle
          { respond i tag (.error .memory) { w with reads := left } with events := s.events ||| 0x0004 })))

/-- R56, R57, R125, R127, R128: a pass-through write's attempt ends: DONE on COMPLETE_OK; a failed attempt joins the retry
list while attempts are left, and else answers ERROR MEMORY. When a timeout is due, and what a completion with bytes is
taken as, are the model's readings (notes/assumptions/5.md, 13.md, 22.md). -/
def Obligations.PassWriteAttemptEnds : Prop :=
  ∀ (k : TagIx) (w : PassWrite) (n : Nat) (s : State),
    (∀ a : Timestamp, s.resetPin = .released → s.slots[k] = .busy (.pass w) a n →
      exec (.completeOk k []) s =
        .next (settle (respond w.initiator w.tag .done { s with slots := s.slots.set k .free }))) ∧
    (∀ (c : Instr) (cause : FailCause) (v : State), AttemptFails s k (.pass w) n c cause v →
      let u := { v with counters := { s.counters with retries := s.counters.retries + 1 } }
      (n - 1 < s.regs.wrRetry.toNat →
        exec c s = .next (settle { u with passRetries := s.passRetries ++ [{ write := w, failed := n }] })) ∧
      (s.regs.wrRetry.toNat ≤ n - 1 →
        exec c s = .next (settle (respond w.initiator w.tag (.error .memory) u))))

/-- R2, R10, R18, R21, R49, R75, R125: a release completes: the entry goes FREE with its record cleared, its durable
waiters are answered DONE in list order, the waiting reads of the line go to READY, STALL waits end, and the group's
episode and drains are tested. The order inside the transition is the model's choice (notes/assumptions/15.md), and so is
that STALL waits end before the pressure test (notes/assumptions/35.md). -/
def Obligations.ReleaseCompletes : Prop :=
  ∀ (k : TagIx) (e : EntryIx) (a : Timestamp) (n : Nat) (s : State), s.resetPin = .released →
    s.slots[k] = .busy (.release e) a n → s.entries[e].state = .releasing →
    let x := s.entries[e]
    ∃ u, u = { s with
          slots := s.slots.set k .free
          entries := s.entries.set e (.cleared x.data)
          counts := { s.counts with releasing := s.counts.releasing - 1 }
          upstreamOut := s.upstreamOut ++
            x.waiters.map fun w => .response (BitVec.ofNat 3 w.initiator.val) w.tag .done
          reads := s.reads.map fun r =>
            if lineOf r.address = x.line ∧ r.state = .waitRelease then { r with state := .ready } else r
          initiators := u.initiators } ∧
      (∀ i : InitIx,
        u.initiators[i] =
          { s.initiators[i] with
            tags := u.initiators[i].tags
            head := if s.initiators[i].head = .waiting .stall then .undecided else s.initiators[i].head } ∧
        ∀ t : UpTag, u.initiators[i].tags.getLsbD t.toNat =
          (s.initiators[i].tags.getLsbD t.toNat && !(x.waiters.any fun w => w.initiator == i && w.tag == t))) ∧
      exec (.completeOk k []) s = .next (settle (testDrains x.group (testEpisode x.group u)))

/-- R17, R19 to R21, R75, R98, R125, R126, R128, R160, R162: a failed attempt of a release: retried while attempts are
left; else FAULTED with a record in the lowest-numbered free slot, the waiters answered ERROR MEMORY and the waiting
reads ERROR FAULTED_LINE; or, with the fault list full, back to HELD at its old place in the age list. The order
inside the transition is the model's choice (notes/assumptions/15.md); when a timeout is due, and what a completion with
bytes is taken as, are its readings (5.md, 13.md, 22.md). -/
def Obligations.ReleaseAttemptFails : Prop :=
  ∀ (k : TagIx) (e : EntryIx) (n : Nat) (s : State) (c : Instr) (cause : FailCause) (v : State),
    AttemptFails s k (.release e) n c cause v → s.entries[e].state = .releasing →
    let x := s.entries[e]
    let w := { v with counters := { s.counters with retries := s.counters.retries + 1 } }
    (x.attempts < s.regs.wrRetry.toNat →
      exec c s = .next (settle
        { w with
          entries := s.entries.set e { x with attempts := x.attempts + 1, lastCause := some cause }
          releaseRetries := s.releaseRetries ++ [e] })) ∧
    (∀ f : FaultIx, s.regs.wrRetry.toNat ≤ x.attempts → s.faultOrder.length < 6 → s.faults[f] = none →
      (∀ j : FaultIx, j < f → s.faults[j] ≠ none) →
      let waiting := fun r : PendingRead => decide (lineOf r.address = x.line) && decide (r.state = .waitRelease)
      ∃ u, u = { w with
            entries := s.entries.set e
              { x with state := .faulted, waiters := [], lastCause := some cause, faultSlot := some f }
            faults := s.faults.set f (some
              { entry := e, line := x.line, group := x.group, mask := x.mask, cause := cause,
                attemptsMade := x.attempts + 1, time := s.timestamp })
            faultOrder := s.faultOrder ++ [f]
            counts :=
              { s.counts with releasing := s.counts.releasing - 1, faulted := s.counts.faulted + 1 }
            events := s.events ||| 0x0001
            upstreamOut := s.upstreamOut ++
              (x.waiters.map fun y => .response (BitVec.ofNat 3 y.initiator.val) y.tag (.error .memory)) ++
              (s.reads.filter waiting).map fun y =>
                .response (BitVec.ofNat 3 y.initiator.val) y.tag (.error .faultedLine)
            reads := s.reads.filter fun r => !waiting r
            initiators := u.initiators } ∧
        (∀ i : InitIx,
          u.initiators[i] = { s.initiators[i] with tags := u.initiators[i].tags } ∧
          ∀ t : UpTag, u.initiators[i].tags.getLsbD t.toNat =
            (s.initiators[i].tags.getLsbD t.toNat && !(x.waiters.any fun y => y.initiator == i && y.tag == t) &&
              !((s.reads.filter waiting).any fun y => y.initiator == i && y.tag == t))) ∧
        exec c s = .next (settle (testDrains x.group (testEpisode x.group u)))) ∧
    (StoreSound s → s.regs.wrRetry.toNat ≤ x.attempts → 6 ≤ s.faultOrder.length →
      exec c s = .next (settle (testDrains x.group (testEpisode x.group (heldRose x.group
        { w with
          entries := s.entries.set e { x with state := .held, attempts := 0, lastCause := none }
          ageList := s.ageList.filter (fun f => decide (s.entries[f].seq < x.seq)) ++ [e] ++
            s.ageList.filter (fun f => decide (x.seq < s.entries[f].seq))
          counts :=
            { s.counts with
              held := s.counts.held + 1, releasing := s.counts.releasing - 1
              groupHeld := s.counts.groupHeld.set x.group (s.counts.groupHeld[x.group] + 1) }
          reads := s.reads.map fun r =>
            if lineOf r.address = x.line ∧ r.state = .waitRelease then { r with state := .ready } else r })))))

/-- R130, R131, R144, R195: a completion for a QUARANTINED slot frees it and raises LATE_COMPLETION; a completion for a
FREE slot, a handshake message that answers nothing the bridge has sent, and a message of an undefined kind are ignored
and raise PROTOCOL. -/
def Obligations.LateAndStrayMessages : Prop :=
  ∀ (s : State), s.resetPin = .released →
    (∀ (k : TagIx) (bs : List Byte) (c : Instr), c = .completeOk k bs ∨ c = .completePoison k bs ∨
        c = .completeFail k bs →
      (∀ (x : SlotKind) (a : Timestamp) (n : Nat), s.slots[k] = .quarantined x a n →
        exec c s = .next (settle { s with slots := s.slots.set k .free, events := s.events ||| 0x0040 })) ∧
      (s.slots[k] = .free → exec c s = .next { s with events := s.events ||| 0x0020 })) ∧
    (s.power.state ≠ .entering →
      exec .sleepAccept s = .next { s with events := s.events ||| 0x0020 } ∧
      exec .sleepDecline s = .next { s with events := s.events ||| 0x0020 }) ∧
    (s.power.state ≠ .waking → exec .wakeReady s = .next { s with events := s.events ||| 0x0020 }) ∧
    (∀ x : BitVec 3, x = 3 ∨ x = 7 →
      exec (.undefinedDownstreamMessage x) s = .next { s with events := s.events ||| 0x0020 })

/-! ## Memory power, time and the pins -/

/-- R141, R151, R156, R157: the sleep countdown's expiry and CYCLE send SLEEP_REQUEST in AWAKE while the idle condition
holds; WAKE restarts a running countdown in AWAKE and is a wake cause otherwise; RECOVER starts a wake in UNAVAILABLE.
That a countdown which has run out stands at 0 until its expiry is taken is the model's choice (notes/assumptions/13.md). -/
def Obligations.SleepAndWakeRequested : Prop :=
  ∀ s : State,
    let entering := fun (owed : Bool) =>
      { s with
        downstreamOut := s.downstreamOut ++ [.sleepRequest]
        power :=
          { s.power with state := .entering, sleepCountdown := none, notedWake := false, cycleOwed := owed } }
    (s.resetPin = .released → s.power.state = .awake → s.power.sleepCountdown = some 0 → idleCondition s = true →
      exec .sleepCountdownExpiry s = .next (entering s.power.cycleOwed)) ∧
    (takesCommand s = true →
      (s.power.state = .awake → idleCondition s = true → Answers .cycle s .ok [] (entering true)) ∧
      (s.power.state ≠ .awake ∨ idleCondition s = false → Answers .cycle s .busy [] s) ∧
      (s.power.state = .unavailable → Answers .wake s .refused [] s) ∧
      (s.power.state = .awake → Answers .wake s .ok []
        { s with power := { s.power with
            sleepCountdown := s.power.sleepCountdown.map fun _ => s.regs.sleepDelay.toNat } }) ∧
      (s.power.state ≠ .awake → s.power.state ≠ .unavailable → Answers .wake s .ok [] (takeWake s)) ∧
      (s.power.state = .unavailable → Answers .recover s .ok []
        { s with
          downstreamOut := s.downstreamOut ++ [.wakeRequest]
          power :=
            { s.power with state := .waking, attempt := 1, wakeTimer := some s.regs.wakeLimit.toNat } }) ∧
      (s.power.state ≠ .unavailable → Answers .recover s .refused [] s))

/-- R73, R102, R129, R142, R143, R147: SLEEP_ACCEPT takes ENTERING to ASLEEP, frees the QUARANTINED slots, counts in
SLEEPS, and starts a wake at once where one is wanted; SLEEP_DECLINE takes ENTERING, and WAKE_READY takes WAKING, to
AWAKE, where DEFERRED reads go to READY, or to WAIT_RELEASE where their line's entry is RELEASING, and pending releases
return to no outside the halt. That the reads move in this very transition is the model's choice
(notes/assumptions/34.md). -/
def Obligations.HandshakeAnswered : Prop :=
  ∀ s : State, s.resetPin = .released →
    let awake := fun (p : Power) (c : Counters) =>
      settle
        { s with
          power := p, counters := c
          reads := s.reads.map fun r =>
            if r.state = .deferred then
              { r with state := if lineIn s (lineOf r.address) .releasing then .waitRelease else .ready }
            else r
          groups := if 6 ≤ s.faultOrder.length then s.groups
            else s.groups.map fun x => { x with pendingRelease := false } }
    (s.power.state = .entering →
      let wanted := s.power.notedWake || s.power.cycleOwed || urgentStands s || deferredStand s || pressureStands s
      let slept := { s.power with state := .asleep, notedWake := false, cycleOwed := false }
      exec .sleepAccept s = .next
        { s with
          slots := s.slots.map fun x => if x.isQuarantined then .free else x
          counters := { s.counters with sleeps := s.counters.sleeps + 1 }
          downstreamOut := s.downstreamOut ++ (if wanted then [.wakeRequest] else [])
          power := if wanted then
            { slept with state := .waking, attempt := 1, wakeTimer := some s.regs.wakeLimit.toNat } else slept } ∧
      exec .sleepDecline s =
        .next (awake { s.power with state := .awake, notedWake := false, cycleOwed := false } s.counters)) ∧
    (s.power.state = .waking →
      exec .wakeReady s =
        .next (awake { s.power with state := .awake, attempt := 0, wakeTimer := none }
          { s.counters with wakes := s.counters.wakes + 1 }))

/-- R53, R62, R82, R110, R148, R149: the wake timer's expiry sends WAKE_REQUEST again at attempts 1 and 2 and raises
WAKE_RETRY; at attempt 3 the power state goes to UNAVAILABLE and every durable waiter of a HELD entry, pending read,
drain and waiting pass-through write is answered ERROR UNAVAILABLE, in that order. A head is then to be decided where a
pass-through write has left its queue or it waited under STALL, and otherwise as the end of its wait gives it. The order
among these four is the model's choice (notes/assumptions/17.md), and so are that the response of a pass-through write
stands before its credit return (4.md), that a timer which has run out stands at 0 until its expiry is taken (13.md), and
that STALL waits end before the pressure test (35.md). -/
def Obligations.WakeTimerExpires : Prop :=
  ∀ s : State, s.resetPin = .released → s.power.state = .waking → s.power.wakeTimer = some 0 →
    (s.power.attempt < 3 → exec .wakeTimerExpiry s = .next
      { s with
        events := s.events ||| 0x0008
        downstreamOut := s.downstreamOut ++ [.wakeRequest]
        power :=
          { s.power with attempt := s.power.attempt + 1, wakeTimer := some s.regs.wakeLimit.toNat } }) ∧
    (3 ≤ s.power.attempt →
      let refused := fun (i : InitIx) (t : UpTag) =>
        UpMessage.response (BitVec.ofNat 3 i.val) t (.error .unavailable)
      let passing := fun i : InitIx =>
        if s.initiators[i].head = .passThrough then s.initiators[i].queue.head? else none
      ∃ t, exec .wakeTimerExpiry s = .next t ∧
        t = { s with
              power := { s.power with state := .unavailable, wakeTimer := none, sleepCountdown := none }
              entries := s.entries.map fun x => if x.state = .held then { x with waiters := [] } else x
              reads := [], drains := []
              upstreamOut := s.upstreamOut ++
                (s.entries.toList.flatMap fun x =>
                  if x.state = .held then x.waiters.map fun w => refused w.initiator w.tag else []) ++
                (s.reads.map fun r => refused r.initiator r.tag) ++
                (s.drains.map fun d => refused d.initiator d.tag) ++
                (List.finRange 6).flatMap fun i =>
                  match passing i with
                  | some r => [refused i r.tag, .credit i]
                  | none => []
              initiators := t.initiators, pressure := t.pressure } ∧
        TestsTaken t ∧
        ∀ i : InitIx,
          t.initiators[i].queue =
            (if (passing i).isSome then s.initiators[i].queue.tail else s.initiators[i].queue) ∧
          t.initiators[i].credits =
            (if (passing i).isSome then s.initiators[i].credits + 1 else s.initiators[i].credits) ∧
          ((passing i).isSome ∨ s.initiators[i].head = .waiting .stall → t.initiators[i].head = .undecided) ∧
          (passing i = none → s.initiators[i].head ≠ .waiting .stall → t.initiators[i].head =
            match s.initiators[i].queue, s.initiators[i].head with
            | r :: _, .waiting c => if waitOver t r c then .undecided else .waiting c
            | _, h => h) ∧
          ∀ n : UpTag, t.initiators[i].tags.getLsbD n.toNat =
            (s.initiators[i].tags.getLsbD n.toNat &&
              !((s.entries.any fun x => x.state == .held && x.waiters.any fun w => w.initiator == i && w.tag == n) ||
                (s.reads.any fun r => r.initiator == i && r.tag == n) ||
                (s.drains.any fun d => d.initiator == i && d.tag == n) ||
                ((passing i).any fun r => r.tag == n))))

/-- R72, R86, R87, R95, R96, R136, R153, R155: what a tick, a change of OPP, the deferral limit, a window boundary and
the expiries of the group timers do. When each is due, and the fields divider and respLimitSeen, are the model's
choice (notes/assumptions/5.md, 12.md, 13.md, 14.md). -/
def Obligations.TimeAndTimers : Prop :=
  ∀ s : State, s.resetPin = .released →
    exec .tick s = .next
      { s with
        timestamp := s.timestamp + 1, divider := s.regs.tickDiv, respLimitSeen := s.regs.respLimit
        power :=
          { s.power with
            sleepCountdown := s.power.sleepCountdown.map (· - 1)
            wakeTimer := s.power.wakeTimer.map (· - 1)
            windowCountdown := s.power.windowCountdown.map (· - 1) } } ∧
    (∀ level : Bool, exec (.oppChange level) s =
      .next (if s.opp = level then s else settle { s with opp := level })) ∧
    (∀ r : PendingRead, s.reads.find? (fun r => r.state == .deferred) = some r →
      s.regs.deferLimit.toNat ≤ (s.timestamp - r.arrival).toNat → exec .deferLimitReached s = .next (takeWake s)) ∧
    (s.power.windowCountdown = some 0 →
      ∃ u, u = (if (∃ g : GroupIx, s.groups[g].pendingRelease = true) ∧ s.faultOrder.length < 6 then takeWake s
          else s) ∧
        exec .windowBoundary s = .next
          { u with power :=
            { u.power with
              current := s.power.staged
              windowCountdown := if s.power.staged = 0 then none else some (s.power.staged.toNat * 100) } }) ∧
    ∀ (g : GroupIx) (start : Timestamp), s.groups[g].state = .holding →
      (s.groups[g].ageTimer = some start → s.groups[g].ageLimit ≠ 0 →
        s.groups[g].ageLimit.toNat * 10 ≤ (s.timestamp - start).toNat →
        let u := setGroup g { s.groups[g] with ageTimer := none } s
        exec (.ageTimerExpiry g) s =
          .next (settle (if 0 < s.counts.groupHeld[g] then releaseRequest g u else u))) ∧
      (s.groups[g].quietTimer = some start → s.groups[g].relMode = .quiet → s.groups[g].relValue ≠ 0 →
        s.groups[g].relValue.toNat * 10 ≤ (s.timestamp - start).toNat →
        let u := setGroup g { s.groups[g] with quietTimer := none } s
        exec (.quietTimerExpiry g) s =
          .next (settle (if 0 < s.counts.groupHeld[g] then releaseRequest g u else u)))

/-! ## The management link -/

/-- R40, R164, R175 to R177, R180, R181, R187: a falling chip select starts a frame outside reset, a rising one discards
it; a command byte that names no command is answered UNKNOWN with no data; every other command is answered with the
number of data bytes of 10.4, and one not answered OK shifts zeros and changes nothing but the frame; READ_REG,
REGION_READ, FAULT_READ, ENTRY_PEEK and STATUS of what there is are answered OK and change nothing but the frame. Byte by
byte: the command byte and each argument byte are recorded, the last of them is the command's effect point, and while
bytes go on the link goes through TURNAROUND, RESPONSE and TRAILING and drives out zeros but for the captured response; a
frame clocked byte by byte does what its command does as one step. That one row stands for a command's bytes, and that
the host's bytes are clocked while no command waits, are the model's choice (notes/assumptions/9.md). -/
def Obligations.FramesAndResponses : Prop :=
  let started : Frame := { phase := .command, command := none, args := [], response := [], sent := [] }
  (∀ s : State,
    (s.chipSelectLow = false → exec .frameStart s = .next
      { s with chipSelectLow := true, frame := if s.resetPin = .released then some started else none }) ∧
    (s.chipSelectLow = true → exec .frameStart s = .next s) ∧
    exec .frameEnd s = .next { s with chipSelectLow := false, frame := none } ∧
    (takesCommand s = true ↔ s.resetPin = .released ∧ ∃ f, s.frame = some f ∧ f.phase = .command) ∧
    (takesCommand s = true →
      (∀ b : Byte, (∀ n : CommandName, commandByte n ≠ b) → Answers (.unknownCommand b) s .unknown [] s) ∧
      ∀ (c : Instr) (n : CommandName) (args : List Byte), c.wf = true → frameOf c = some (commandByte n, args) →
        ∃ (st : Status) (data : List Byte) (u : State), Answers c s st data u ∧ data.length = dataBytes n ∧
          (st ≠ .ok → data = List.replicate (dataBytes n) 0 ∧ u = s)) ∧
    (takesCommand s = true →
      (∀ r : Register, ∃ data, Answers (.readReg (BitVec.ofNat 8 (registerNumber r))) s .ok data s) ∧
      (∀ (b : Byte) (k : RegionIx), b.toNat = k.val → ∃ data, Answers (.regionRead b) s .ok data s) ∧
      (∀ (b : Byte) (k : FaultIx), b.toNat = k.val → s.faults[k] ≠ none → ∃ data, Answers (.faultRead b) s .ok data s) ∧
      (∀ (b : Byte) (e : EntryIx), b.toNat = e.val → ∃ data, Answers (.entryPeek b) s .ok data s) ∧
      ∃ data, Answers .status s .ok data s)) ∧
  (∀ (s : State) (b : Byte) (rest : List Byte), s.pending = [] → s.serialIn = b :: rest →
    let u := { s with serialIn := rest }
    (s.frame = none ∨ s.resetPin ≠ .released → step s = .next u) ∧
    ∀ f : Frame, s.frame = some f → s.resetPin = .released →
      let record := fun (g : Frame) (out : Byte) =>
        Host.Outcome.next (φ := Fault) (ρ := Refusal) { u with frame := some { g with sent := f.sent ++ [out] } }
      (f.phase = .command →
        (decodeFrame b [] = none → step s = record { f with phase := .argument, command := some b } 0) ∧
        ∀ c, decodeFrame b [] = some c → step s = exec c { u with frame := some started }) ∧
      (∀ x, f.phase = .argument → f.command = some x →
        (decodeFrame x (f.args ++ [b]) = none → step s = record { f with args := f.args ++ [b] } 0) ∧
        ∀ c, decodeFrame x (f.args ++ [b]) = some c → step s = exec c { u with frame := some started }) ∧
      (f.phase = .turnaround → step s = record { f with phase := .response } 0) ∧
      (∀ x left, f.phase = .response → f.response.drop (f.sent.length - (f.args.length + 2)) = x :: left →
        step s = record { f with phase := if left = [] then .trailing else .response } x) ∧
      (f.phase = .trailing → step s = record f 0)) ∧
  (∀ (s : State) (c : Instr) (b : Byte) (args rest : List Byte), s.pending = [] → s.resetPin = .released →
    s.frame = some started → c.wf = true → frameOf c = some (b, args) → s.serialIn = b :: args ++ rest →
    steps (args.length + 1) s = exec c { s with serialIn := rest }) ∧
  ∀ (s : State) (f : Frame) (bs rest : List Byte) (n : Nat), s.pending = [] → s.resetPin = .released →
    s.frame = some f → f.phase = .turnaround → f.sent.length = f.args.length + 1 → f.response ≠ [] →
    s.serialIn = bs ++ rest → bs.length = 1 + f.response.length + n →
    steps bs.length s = .next
      { s with
        serialIn := rest
        frame := some { f with
          phase := .trailing, sent := f.sent ++ [0] ++ f.response ++ List.replicate n 0 } }

/-- R40, R164, R180, R181, R187, R190, R197, R198, 10.5: READ_REG, REGION_READ, FAULT_READ, ENTRY_PEEK and STATUS capture
what they name in the layouts of 10.5 and change nothing; an argument out of range is answered BAD_ARG, and an empty
fault slot REFUSED. That the data bytes of a fault record and of an entry record go in position order is the model's choice
(notes/assumptions/36.md). -/
def Obligations.ReadBack : Prop :=
  ∀ s : State, takesCommand s = true →
    let zeros := fun n => List.replicate n (0 : Byte)
    let field := fun (bs : List Byte) (first count : Nat) => natBE ((bs.drop first).take count)
    (∀ n : Byte, (∀ r : Register, registerNumber r ≠ n.toNat) → Answers (.readReg n) s .badArg (zeros 4) s) ∧
    (∀ r : Register, ∃ bs, Answers (.readReg (BitVec.ofNat 8 (registerNumber r))) s .ok bs s ∧ bs.length = 4 ∧
      (registerValue s r < 2 ^ 32 → natBE bs = registerValue s r) ∧
      registerValue s r =
        match r with
        | .id => 0x1B703001
        | .tickDiv => s.regs.tickDiv.toNat
        | .fullPolicy => (match s.regs.fullPolicy with | .stall => 0 | .through => 1)
        | .deferLimit => s.regs.deferLimit.toNat
        | .deferCount => s.regs.deferCount.toNat
        | .rdRetry => s.regs.rdRetry.toNat
        | .wrRetry => s.regs.wrRetry.toNat
        | .creditLimit => s.regs.creditLimit.toNat
        | .respLimit => s.regs.respLimit.toNat
        | .highMark => s.regs.highMark.toNat
        | .lowMark => s.regs.lowMark.toNat
        | .oppMark => s.regs.oppMark.toNat
        | .sleepDelay => s.regs.sleepDelay.toNat
        | .wakeLimit => s.regs.wakeLimit.toNat
        | .windowPeriod => s.power.staged.toNat
        | .ageLimit g => s.groups[g].ageLimit.toNat
        | .relMode g => (match s.groups[g].relMode with | .quiet => 0 | .count => 1)
        | .relValue g => s.groups[g].relValue.toNat
        | .lineLimit g => s.groups[g].lineLimit.toNat
        | .companions g => s.groups[g].companions.toNat
        | .attnEnable => s.regs.attnEnable.toNat
        | .attnStatus => (attention s).toNat
        | .wakes => s.counters.wakes.toNat
        | .sleeps => s.counters.sleeps.toNat
        | .fullHits => s.counters.fullHits.toNat
        | .throughWrites => s.counters.throughWrites.toNat
        | .retries => s.counters.retries.toNat
        | .discardedLines => s.counters.discardedLines.toNat
        | .resetRecord =>
          (match s.resetRecord.cause with | .powerOn => 0 | .pin => 1 | .clear => 2) * 256 +
            s.resetRecord.lostLines) ∧
    Answers (.readReg 0) s .ok [0x1B, 0x70, 0x30, 0x01] s ∧
    (∀ n : Byte, 12 ≤ n.toNat → Answers (.regionRead n) s .badArg (zeros 8) s) ∧
    (∀ (n : Byte) (k : RegionIx), n.toNat = k.val →
      let x := s.regions[k]
      ∃ b0 bs, Answers (.regionRead n) s .ok (b0 :: bs) s ∧ bs.length = 7 ∧ b0.getLsbD 7 = x.valid ∧
        (match x.policy with
          | .hold g d => (b0.extractLsb' 4 3).toNat = g.val ∧ b0.getLsbD 3 = d ∧ b0.extractLsb' 0 3 = 0
          | .pass => b0.extractLsb' 0 7 = 1
          | .block => b0.extractLsb' 0 7 = 2) ∧
        bs.take 1 = [if x.readClass = .urgent then 0 else 1] ∧
        (RegistersSound s → field bs 1 1 = x.sizeLog) ∧ field bs 2 5 = x.base.toNat) ∧
    (∀ n : Byte, 6 ≤ n.toNat → Answers (.faultRead n) s .badArg (zeros 86) s) ∧
    (∀ (n : Byte) (k : FaultIx), n.toNat = k.val →
      (s.faults[k] = none → Answers (.faultRead n) s .refused (zeros 86) s) ∧
      ∀ f : FaultRecord, s.faults[k] = some f →
        ∃ bs, Answers (.faultRead n) s .ok bs s ∧ bs.length = 86 ∧ field bs 0 1 = k.val ∧
          field bs 1 1 = f.entry.val ∧ field bs 2 1 = f.group.val ∧
          field bs 3 1 = (match f.cause with | .fail => 0 | .poison => 1 | .timeout => 2) ∧
          (f.attemptsMade < 256 → field bs 4 1 = f.attemptsMade) ∧ field bs 5 5 = f.line.toNat ∧
          field bs 10 8 = f.mask.toNat ∧ field bs 18 4 = f.time.toNat ∧
          bs.drop 22 = s.entries[f.entry].data.toList) ∧
    (∀ n : Byte, 48 ≤ n.toNat → Answers (.entryPeek n) s .badArg (zeros 98) s) ∧
    (∀ (n : Byte) (e : EntryIx), n.toNat = e.val →
      let x := s.entries[e]
      ∃ bs, Answers (.entryPeek n) s .ok bs s ∧ bs.length = 98 ∧
        field bs 0 1 = (match x.state with | .free => 0 | .held => 1 | .releasing => 2 | .faulted => 3) ∧
        (bs.getD 1 0).getLsbD 0 = x.expedite ∧ (bs.getD 1 0).getLsbD 1 = x.faultSlot.isSome ∧
        (bs.getD 1 0).toNat < 4 ∧
        field bs 2 1 = x.group.val ∧ (x.attempts < 256 → field bs 3 1 = x.attempts) ∧
        field bs 4 1 = (match x.faultSlot with | some k => k.val | none => 0) ∧
        (Bounded s → field bs 5 1 = x.waiters.length ∧ (bs.drop 6).take 3 =
          x.waiters.map (fun w => BitVec.ofNat 8 (w.initiator.val * 16 + w.tag.toNat)) ++
            zeros (3 - x.waiters.length)) ∧
        field bs 9 5 = x.line.toNat ∧ field bs 14 8 = x.mask.toNat ∧ field bs 22 6 = x.seq.toNat ∧
        field bs 28 4 = x.allocTime.toNat ∧ field bs 32 2 = x.merges.toNat ∧
        bs.drop 34 = if x.state = .faulted then x.data.toList else zeros 64) ∧
    ∃ bs, Answers .status s .ok bs s ∧ bs.length = 75 ∧
      field bs 0 1 = (match s.power.state with
        | .awake => 0 | .entering => 1 | .asleep => 2 | .waking => 3 | .unavailable => 4) ∧
      (PowerSound s → field bs 1 1 = s.power.attempt) ∧ field bs 2 2 = s.power.current.toNat ∧
      (bs.getD 4 0).getLsbD 0 = s.opp ∧ (bs.getD 4 0).getLsbD 1 = s.pressure ∧
      ((bs.getD 4 0).getLsbD 2 = true ↔ 6 ≤ s.faultOrder.length) ∧ (bs.getD 4 0).toNat < 8 ∧
      (∀ g : GroupIx,
        let first := 5 + 10 * g.val
        field bs first 1 = (match s.groups[g].state with
          | .idle => 0 | .holding => 1 | .closing => 2 | .closed => 3) ∧
        ((bs.getD (first + 1) 0).getLsbD 0 = true ↔ s.groups[g].episode ≠ .absent) ∧
        (bs.getD (first + 1) 0).getLsbD 2 = s.groups[g].pendingRelease ∧
        (bs.getD (first + 1) 0).getLsbD 1 = false ∧ (bs.getD (first + 1) 0).toNat < 8 ∧
        field bs (first + 2) 6 = (match s.groups[g].episode with | .mark m => m.toNat | _ => 0) ∧
        (StoreSound s → field bs (first + 8) 1 = s.counts.groupHeld[g]) ∧
        field bs (first + 9) 1 = s.faults.countP fun x => x.any fun f => f.group == g) ∧
      (StoreSound s → field bs 45 1 = s.counts.held ∧ field bs 46 1 = s.counts.releasing ∧
        field bs 47 1 = s.counts.faulted) ∧
      field bs 48 6 = s.seqCounter.toNat ∧ field bs 54 1 = busySlots s ∧ field bs 55 1 = quarantinedSlots s ∧
      (Bounded s → field bs 56 1 = s.reads.length ∧
        field bs 57 1 = (s.reads.filter fun r => r.state == .deferred).length ∧ field bs 58 1 = s.drains.length) ∧
      field bs 59 4 = (match s.drains with | d :: _ => (s.timestamp - d.arrival).toNat | [] => 0) ∧
      (FaultsSound s → field bs 63 1 = s.faultOrder.length ∧
        (bs.drop 64).take 6 = (s.faultOrder.map fun k => BitVec.ofNat 8 k.val) ++
          List.replicate (6 - s.faultOrder.length) 0xFF) ∧
      ((bs.getD 70 0).getLsbD 0 = true ↔ 6 ≤ s.faultOrder.length) ∧
      ((bs.getD 70 0).getLsbD 1 = true ↔ s.power.state = .unavailable) ∧
      (bs.getD 70 0).getLsbD 2 = tagsStuck s ∧ (bs.getD 70 0).toNat < 8 ∧ field bs 71 4 = s.timestamp.toNat

/-- R188: a write of a register, whichever row of the table it is, is judged in R188's order: BAD_ARG for a number
that names no register, REFUSED for a read-only register, BAD_ARG for a value that does not fit the width or fails the
register's checks, BUSY for its state check, and else OK; then the register reads back the value and every other
writable register what it held. That writeReg and a register's own row agree is the model's choice
(notes/assumptions/26.md). -/
def Obligations.RegisterWritten : Prop :=
  ∀ (c : Instr) (n : Byte) (v : BitVec 32) (s : State), takesCommand s = true →
    frameOf c = some (commandByte .writeReg, writeArgs n v) →
    ((∀ r : Register, registerNumber r ≠ n.toNat) → Answers c s .badArg [] s) ∧
    ∀ r : Register, registerNumber r = n.toNat →
      (readOnly r = true → Answers c s .refused [] s) ∧
      (readOnly r = false → (2 ^ registerWidth r ≤ v.toNat ∨ inRange s r v.toNat = false) →
        Answers c s .badArg [] s) ∧
      (readOnly r = false → v.toNat < 2 ^ registerWidth r → inRange s r v.toNat = true →
        (writeBusy s r = true → Answers c s .busy [] s) ∧
        (writeBusy s r = false →
          Answers c s .ok [] (storeRegister r v.toNat s) ∧
          registerValue (storeRegister r v.toNat s) r = v.toNat ∧
          ∀ q : Register, readOnly q = false → q ≠ r →
            registerValue (storeRegister r v.toNat s) q = registerValue s q))

/-- R48, R49, R70, R72, R86, R89, R114, R119, R120, R128, R139, R146, R152, R153, R165, R189, 9.6: the range and state
checks of each register, and what a written value does beside being kept. That FULL_POLICY's change to THROUGH ends the
STALL waits before the pressure test is the model's choice (notes/assumptions/35.md). -/
def Obligations.RegisterChecksAndEffects : Prop :=
  ∀ (s : State) (v : Nat),
    (inRange s .tickDiv v = true ↔ 20 ≤ v ∧ v ≤ 250) ∧ (inRange s .fullPolicy v = true ↔ v ≤ 1) ∧
    inRange s .deferLimit v = true ∧ (inRange s .deferCount v = true ↔ 1 ≤ v ∧ v ≤ 12) ∧
    (inRange s .rdRetry v = true ↔ v ≤ 3) ∧ (inRange s .wrRetry v = true ↔ v ≤ 3) ∧
    (inRange s .creditLimit v = true ↔ 1 ≤ v ∧ v ≤ 8) ∧ (inRange s .respLimit v = true ↔ 1 ≤ v ∧ v ≤ 1023) ∧
    (inRange s .wakeLimit v = true ↔ 1 ≤ v ∧ v ≤ 1023) ∧
    (inRange s .highMark v = true ↔
      1 ≤ v ∧ v ≤ 48 ∧ s.regs.lowMark.toNat < v ∧ s.regs.oppMark.toNat ≤ v) ∧
    (inRange s .lowMark v = true ↔
      v ≤ 47 ∧ v < s.regs.highMark.toNat ∧ s.regs.oppMark.toNat ≤ s.regs.highMark.toNat) ∧
    (inRange s .oppMark v = true ↔
      1 ≤ v ∧ v ≤ 48 ∧ v ≤ s.regs.highMark.toNat ∧ s.regs.lowMark.toNat < s.regs.highMark.toNat) ∧
    inRange s .sleepDelay v = true ∧ inRange s .windowPeriod v = true ∧
    (v < 2 ^ 16 → (inRange s .attnEnable v = true ↔ v < 2 ^ 13)) ∧
    (∀ g : GroupIx, inRange s (.ageLimit g) v = true ∧ (inRange s (.relMode g) v = true ↔ v ≤ 1) ∧
      inRange s (.relValue g) v = true ∧ (inRange s (.lineLimit g) v = true ↔ v ≤ 48) ∧
      inRange s (.companions g) v = true) ∧
    (∀ r : Register, writeBusy s r = true ↔
      (r = .tickDiv ∧ ∃ g : GroupIx, active s g = true) ∨
      ∃ g : GroupIx, s.groups[g].state ≠ .idle ∧
        (r = .ageLimit g ∨ r = .relMode g ∨ r = .relValue g ∨ r = .lineLimit g ∨ r = .companions g)) ∧
    (∀ r : Register,
      r = .tickDiv ∨ r = .rdRetry ∨ r = .wrRetry ∨ r = .creditLimit ∨ r = .respLimit ∨ r = .wakeLimit ∨
        r = .attnEnable →
      storeRegister r v s = { s with regs := (storeRegister r v s).regs }) ∧
    (∃ p, (v = 0 → p = .stall) ∧ (v = 1 → p = .through) ∧
      (s.regs.fullPolicy = .stall → v = 1 →
        storeRegister .fullPolicy v s = settle (endStalls { s with regs := { s.regs with fullPolicy := p } })) ∧
      (s.regs.fullPolicy = .through ∨ v = 0 →
        storeRegister .fullPolicy v s = { s with regs := { s.regs with fullPolicy := p } })) ∧
    (∀ r : Register, r = .deferLimit ∨ r = .deferCount →
      ∃ u, u = { s with regs := u.regs } ∧ registerValue u r = v % 2 ^ registerWidth r ∧
        storeRegister r v s = if deferredStand u then takeWake u else u) ∧
    (∀ r : Register, r = .highMark ∨ r = .lowMark ∨ r = .oppMark →
      ∃ u, u = { s with regs := u.regs } ∧ registerValue u r = v % 2 ^ 8 ∧ storeRegister r v s = settle u) ∧
    (∃ u, u = { s with regs := u.regs } ∧ registerValue u .sleepDelay = v % 2 ^ 16 ∧
      storeRegister .sleepDelay v s =
        { u with power := { s.power with
            sleepCountdown := if countdownRuns u then some (v % 2 ^ 16) else none } }) ∧
    (v < 2 ^ 16 →
      storeRegister .windowPeriod v s =
        { s with power :=
          (if s.power.current = 0 then
            { s.power with
              staged := BitVec.ofNat 16 v, current := BitVec.ofNat 16 v,
              windowCountdown := if v = 0 then none else some (v * 100) }
          else { s.power with staged := BitVec.ofNat 16 v }) }) ∧
    ∀ (g : GroupIx) (r : Register),
      r = .ageLimit g ∨ r = .relMode g ∨ r = .relValue g ∨ r = .lineLimit g ∨ r = .companions g →
      let t := storeRegister r v s
      t = { s with groups := t.groups } ∧ (∀ j : GroupIx, j ≠ g → t.groups[j] = s.groups[j]) ∧
        t.groups[g] =
          { s.groups[g] with
            ageLimit := t.groups[g].ageLimit, relMode := t.groups[g].relMode, relValue := t.groups[g].relValue
            lineLimit := t.groups[g].lineLimit, companions := t.groups[g].companions }

/-- R165 to R169, R172, 10.5: the attention status shows the stored event causes and the level causes as their conditions
stand; TAKE returns it and clears the event causes, ACK clears those it names, CLEAR_COUNTERS zeroes the counters; ATTNn
is low while an enabled cause reads as set, outside reset. -/
def Obligations.AttentionServed : Prop :=
  ∀ s : State,
    attention s = s.events ||| (if 6 ≤ s.faultOrder.length then 0x0002 else 0) |||
      (if s.power.state = .unavailable then 0x0010 else 0) |||
      (if (∀ k : TagIx, s.slots[k].isBusy = false) ∧
          s.regs.creditLimit.toNat ≤ s.slots.countP Slot.isQuarantined then 0x0080 else 0) ∧
    (attnLow s = true ↔ s.resetPin = .released ∧
      ∃ n : Fin 16, (attention s).getLsbD n.val = true ∧ s.regs.attnEnable.getLsbD n.val = true) ∧
    (takesCommand s = true →
      (∃ hi lo : Byte, hi ++ lo = attention s ∧ Answers .take s .ok [hi, lo] { s with events := 0 }) ∧
      (∀ v : BitVec 16, (2 ^ 13 ≤ v.toNat → Answers (.ack v) s .badArg [] s) ∧
        (v.toNat < 2 ^ 13 → Answers (.ack v) s .ok [] { s with events := s.events &&& ~~~v })) ∧
      Answers .clearCounters s .ok []
        { s with counters :=
          { wakes := 0, sleeps := 0, fullHits := 0, throughWrites := 0, retries := 0, discardedLines := 0 } })

/-- R26, R37, R38, R199: REGION_WRITE is answered BAD_ARG where a checked argument fails, BUSY where the old or the
new content is a HOLD entry of an active group, and else stores the entry; an entry written with the valid bit clear
takes its power-on content, and an entry read back and written again is stored unchanged. The content of an entry that
is not valid is the model's reading (notes/assumptions/25.md). -/
def Obligations.RegionWritten : Prop :=
  (∀ (s : State) (n : Byte) (x : BitVec 64), takesCommand s = true →
    (12 ≤ n.toNat ∨ regionOf x = none → Answers (.regionWrite n x) s .badArg [] s) ∧
    ∀ (k : RegionIx) (y : Region), n.toNat = k.val → regionOf x = some y →
      let busy := fun z : Region => ∃ g d, z.valid = true ∧ z.policy = .hold g d ∧
        (s.groups[g].state = .holding ∨ s.groups[g].state = .closing)
      (busy s.regions[k] ∨ busy y → Answers (.regionWrite n x) s .busy [] s) ∧
      (¬busy s.regions[k] → ¬busy y →
        Answers (.regionWrite n x) s .ok [] { s with regions := s.regions.set k y })) ∧
  (∀ x : BitVec 64, x.getLsbD 63 = false → regionOf x = some .powerOn) ∧
  (∀ x : BitVec 64, x.getLsbD 63 = true →
    let size := (x.extractLsb' 40 8).toNat
    let base := x.extractLsb' 0 40
    (regionOf x = none ↔
      size < 12 ∨ 40 < size ∨ base.toNat % 2 ^ size ≠ 0 ∨ x.extractLsb' 56 2 = 3 ∨
        2 ≤ (x.extractLsb' 48 2).toNat ∨ (x.extractLsb' 56 2 = 0 ∧ 4 ≤ (x.extractLsb' 60 3).toNat)) ∧
    ∀ y : Region, regionOf x = some y →
      y.valid = true ∧ y.base = base ∧ y.sizeLog = size ∧
      (y.readClass = .urgent ↔ x.extractLsb' 48 2 = 0) ∧
      (∀ g d, y.policy = .hold g d ↔
        x.extractLsb' 56 2 = 0 ∧ (x.extractLsb' 60 3).toNat = g.val ∧ x.getLsbD 59 = d) ∧
      (y.policy = .pass ↔ x.extractLsb' 56 2 = 1)) ∧
  ∀ x : Region, storable x → regionOf (BitVec.ofNat 64 (natBE (regionBytes x))) = some x

/-- R90 to R93, R99, R101, R179: what GROUP_OPEN, GROUP_CLOSE, GROUP_RESET and RELEASE do, and when they are answered
BAD_ARG or REFUSED. The order inside the transition is the model's choice (notes/assumptions/15.md). -/
def Obligations.GroupsCommanded : Prop :=
  ∀ s : State, takesCommand s = true →
    (∀ n : Byte, 4 ≤ n.toNat → Answers (.groupOpen n) s .badArg [] s ∧ Answers (.groupClose n) s .badArg [] s ∧
      Answers (.groupReset n) s .badArg [] s) ∧
    (∀ (n : Byte) (g : GroupIx), n.toNat = g.val →
      let x := s.groups[g]
      (x.state = .holding ∨ x.state = .closing → Answers (.groupOpen n) s .refused [] s) ∧
      (x.state = .idle ∨ x.state = .closed → Answers (.groupOpen n) s .ok []
        (setGroup g
          { x with
            state := .holding, ageTimer := none, quietTimer := none, writeCount := 0, episode := .absent
            pendingRelease := false } s)) ∧
      (x.state ≠ .holding → Answers (.groupClose n) s .refused [] s) ∧
      (x.state = .holding →
        let ep := if s.seqCounter = 0 then .noMark else .mark (s.seqCounter - 1)
        let held := ∃ e : EntryIx, s.seqCounter ≠ 0 ∧ s.entries[e].state = .held ∧ s.entries[e].group = g ∧
          s.entries[e].seq ≤ s.seqCounter - 1
        let deferred := halted s = true ∨ (windowMode s = true ∧ s.power.state = .asleep)
        ∃ u p, u = setGroup g
            { x with
              state := .closing, ageTimer := none, quietTimer := none, episode := ep, pendingRelease := p } s ∧
          (p = true ↔ (held ∧ deferred) ∨
            (x.pendingRelease = true ∧ (¬held ∨ s.power.state ≠ .awake))) ∧
          (held → ¬deferred → Answers (.groupClose n) s .ok [] (settle (testEpisode g (takeWake u)))) ∧
          (¬held ∨ deferred → Answers (.groupClose n) s .ok [] (settle (testEpisode g u)))) ∧
      let faulted := ∃ e : EntryIx, s.entries[e].state = .faulted ∧ s.entries[e].group = g
      (x.state ≠ .closed ∨ faulted → Answers (.groupReset n) s .refused [] s) ∧
      (x.state = .closed → ¬faulted → Answers (.groupReset n) s .ok []
        (setGroup g { x with state := .idle, pendingRelease := false } s))) ∧
    ∀ n : Byte, (16 ≤ n.toNat → Answers (.release n) s .badArg [] s) ∧
      (n.toNat < 16 →
        let request := fun (g : GroupIx) (t : State) =>
          if n.getLsbD g.val = true ∧ t.groups[g].state = .holding ∧ 0 < t.counts.groupHeld[g] then
            releaseRequest g t else t
        Answers (.release n) s .ok [] (settle (request 3 (request 2 (request 1 (request 0 s))))))

/-- R22, R23, R49, R98, R102, R121, R134, R163: FAULT_RETRY and FAULT_DISCARD of a FAULTED entry remove its record,
which lifts the halt where the list was full; the entry re-enters as HELD with the next sequence number and expedite
set, a wake cause, or goes FREE and ends the STALL waits. The order inside the transition, REFUSED before BUSY, and that
STALL waits end before the pressure test, are the model's choice (notes/assumptions/16.md, 20.md, 35.md); when the lift
posts a wake is its reading of R121 (33.md). -/
def Obligations.FaultsServed : Prop :=
  (∀ v : State,
    let kept := windowMode v && v.power.state == .asleep
    ∃ u, u = { v with groups := u.groups } ∧
      (∀ g : GroupIx, u.groups[g] =
        { v.groups[g] with pendingRelease := kept && v.groups[g].pendingRelease }) ∧
      ((v.pressure = true ∨ (kept = false ∧ ∃ g : GroupIx, v.groups[g].pendingRelease = true)) →
        liftHalt v = takeWake u) ∧
      ((v.pressure = false ∧ (kept = true ∨ ∀ g : GroupIx, v.groups[g].pendingRelease = false)) →
        liftHalt v = u)) ∧
  ∀ s : State, takesCommand s = true →
    (∀ n : Byte, 48 ≤ n.toNat →
      Answers (.faultRetry n) s .badArg [] s ∧ Answers (.faultDiscard n) s .badArg [] s) ∧
    ∀ (n : Byte) (e : EntryIx), n.toNat = e.val →
      let x := s.entries[e]
      (x.state ≠ .faulted → Answers (.faultRetry n) s .refused [] s ∧ Answers (.faultDiscard n) s .refused [] s) ∧
      (x.state = .faulted → active s x.group = false → Answers (.faultRetry n) s .refused [] s) ∧
      (x.state = .faulted → active s x.group = true → s.seqCounter = BitVec.allOnes 48 →
        Answers (.faultRetry n) s .busy [] s) ∧
      ∀ k : FaultIx, x.state = .faulted → x.faultSlot = some k →
        let v : State := { s with faults := s.faults.set k none, faultOrder := s.faultOrder.erase k }
        let w := if 6 ≤ s.faultOrder.length ∧ v.faultOrder.length < 6 then liftHalt v else v
        (active s x.group = true → s.seqCounter ≠ BitVec.allOnes 48 →
          let u := takeWake
            { w with
              entries := s.entries.set e
                { x with
                  state := .held, seq := s.seqCounter, allocTime := s.timestamp, merges := 0, attempts := 0
                  lastCause := none, expedite := true, waiters := [], faultSlot := none }
              ageList := s.ageList ++ [e], seqCounter := s.seqCounter + 1
              counts :=
                { s.counts with
                  held := s.counts.held + 1, faulted := s.counts.faulted - 1
                  groupHeld := s.counts.groupHeld.set x.group (s.counts.groupHeld[x.group] + 1) } }
          (s.groups[x.group].state = .closing →
            Answers (.faultRetry n) s .ok [] (settle (releaseRequest x.group u))) ∧
          (s.groups[x.group].state = .holding →
            Answers (.faultRetry n) s .ok [] (settle (heldRose x.group u)))) ∧
        Answers (.faultDiscard n) s .ok [] (settle (endStalls
          { w with
            entries := s.entries.set e (.cleared x.data)
            counts := { s.counts with faulted := s.counts.faulted - 1 }
            counters := { s.counters with discardedLines := s.counters.discardedLines + 1 } }))

/-- R25, R120, R129, R153, R172, R173, R184 to R186: CLEAR is accepted while every group is IDLE, every entry FREE, no slot
BUSY and both lists empty; it clears the history, frees the QUARANTINED slots, makes the staged period current and ends
the STALL waits. In any other state it is answered BUSY. -/
def Obligations.ClearTaken : Prop :=
  ∀ s : State, takesCommand s = true →
    let allowed := (∀ g : GroupIx, s.groups[g].state = .idle) ∧ (∀ e : EntryIx, s.entries[e].state = .free) ∧
      (∀ k : TagIx, s.slots[k].isBusy = false) ∧ s.reads = [] ∧ s.drains = []
    (¬allowed → Answers .clear s .busy [] s) ∧
    (allowed → Answers .clear s .ok [] (settle (endStalls
      { s with
        counters := { wakes := 0, sleeps := 0, fullHits := 0, throughWrites := 0, retries := 0, discardedLines := 0 }
        events := 0, timestamp := 0, seqCounter := 0, pressure := false
        slots := s.slots.map fun x => if x.isQuarantined then .free else x
        resetRecord := { cause := .clear, lostLines := 0 }
        power :=
          { s.power with
            current := s.power.staged
            windowCountdown := if s.power.staged = 0 then none else some (s.power.staged.toNat * 100) } })))
end

