-- ==== Sys2Proof/Laws/State.lean ====
section
/-! SUPPORT. Laws/State.lean: for each update of State in Machine/Flags.lean, Machine/Ops.lean, Machine/Store.lean and
Machine/Link.lean, what each field is after it. Every lemma is true by rfl. -/

namespace Sys2Proof.Machine

section setEntry
variable (e : EntryIx) (x : Entry) (s : State)
@[simp] theorem setEntry_pending : (setEntry e x s).pending = s.pending := rfl
@[simp] theorem setEntry_resetPin : (setEntry e x s).resetPin = s.resetPin := rfl
@[simp] theorem setEntry_initiators : (setEntry e x s).initiators = s.initiators := rfl
@[simp] theorem setEntry_upstreamOut : (setEntry e x s).upstreamOut = s.upstreamOut := rfl
@[simp] theorem setEntry_regions : (setEntry e x s).regions = s.regions := rfl
@[simp] theorem setEntry_entries : (setEntry e x s).entries = s.entries.set e x := rfl
@[simp] theorem setEntry_ageList : (setEntry e x s).ageList = s.ageList := rfl
@[simp] theorem setEntry_seqCounter : (setEntry e x s).seqCounter = s.seqCounter := rfl
@[simp] theorem setEntry_counts : (setEntry e x s).counts = s.counts := rfl
@[simp] theorem setEntry_reads : (setEntry e x s).reads = s.reads := rfl
@[simp] theorem setEntry_groups : (setEntry e x s).groups = s.groups := rfl
@[simp] theorem setEntry_drains : (setEntry e x s).drains = s.drains := rfl
@[simp] theorem setEntry_timestamp : (setEntry e x s).timestamp = s.timestamp := rfl
@[simp] theorem setEntry_divider : (setEntry e x s).divider = s.divider := rfl
@[simp] theorem setEntry_slots : (setEntry e x s).slots = s.slots := rfl
@[simp] theorem setEntry_passRetries : (setEntry e x s).passRetries = s.passRetries := rfl
@[simp] theorem setEntry_releaseRetries : (setEntry e x s).releaseRetries = s.releaseRetries := rfl
@[simp] theorem setEntry_pressure : (setEntry e x s).pressure = s.pressure := rfl
@[simp] theorem setEntry_respLimitSeen : (setEntry e x s).respLimitSeen = s.respLimitSeen := rfl
@[simp] theorem setEntry_downstreamOut : (setEntry e x s).downstreamOut = s.downstreamOut := rfl
@[simp] theorem setEntry_power : (setEntry e x s).power = s.power := rfl
@[simp] theorem setEntry_opp : (setEntry e x s).opp = s.opp := rfl
@[simp] theorem setEntry_faults : (setEntry e x s).faults = s.faults := rfl
@[simp] theorem setEntry_faultOrder : (setEntry e x s).faultOrder = s.faultOrder := rfl
@[simp] theorem setEntry_events : (setEntry e x s).events = s.events := rfl
@[simp] theorem setEntry_counters : (setEntry e x s).counters = s.counters := rfl
@[simp] theorem setEntry_resetRecord : (setEntry e x s).resetRecord = s.resetRecord := rfl
@[simp] theorem setEntry_regs : (setEntry e x s).regs = s.regs := rfl
@[simp] theorem setEntry_chipSelectLow : (setEntry e x s).chipSelectLow = s.chipSelectLow := rfl
@[simp] theorem setEntry_serialIn : (setEntry e x s).serialIn = s.serialIn := rfl
@[simp] theorem setEntry_frame : (setEntry e x s).frame = s.frame := rfl
end setEntry

section setGroup
variable (g : GroupIx) (x : Group) (s : State)
@[simp] theorem setGroup_pending : (setGroup g x s).pending = s.pending := rfl
@[simp] theorem setGroup_resetPin : (setGroup g x s).resetPin = s.resetPin := rfl
@[simp] theorem setGroup_initiators : (setGroup g x s).initiators = s.initiators := rfl
@[simp] theorem setGroup_upstreamOut : (setGroup g x s).upstreamOut = s.upstreamOut := rfl
@[simp] theorem setGroup_regions : (setGroup g x s).regions = s.regions := rfl
@[simp] theorem setGroup_entries : (setGroup g x s).entries = s.entries := rfl
@[simp] theorem setGroup_ageList : (setGroup g x s).ageList = s.ageList := rfl
@[simp] theorem setGroup_seqCounter : (setGroup g x s).seqCounter = s.seqCounter := rfl
@[simp] theorem setGroup_counts : (setGroup g x s).counts = s.counts := rfl
@[simp] theorem setGroup_reads : (setGroup g x s).reads = s.reads := rfl
@[simp] theorem setGroup_groups : (setGroup g x s).groups = s.groups.set g x := rfl
@[simp] theorem setGroup_drains : (setGroup g x s).drains = s.drains := rfl
@[simp] theorem setGroup_timestamp : (setGroup g x s).timestamp = s.timestamp := rfl
@[simp] theorem setGroup_divider : (setGroup g x s).divider = s.divider := rfl
@[simp] theorem setGroup_slots : (setGroup g x s).slots = s.slots := rfl
@[simp] theorem setGroup_passRetries : (setGroup g x s).passRetries = s.passRetries := rfl
@[simp] theorem setGroup_releaseRetries : (setGroup g x s).releaseRetries = s.releaseRetries := rfl
@[simp] theorem setGroup_pressure : (setGroup g x s).pressure = s.pressure := rfl
@[simp] theorem setGroup_respLimitSeen : (setGroup g x s).respLimitSeen = s.respLimitSeen := rfl
@[simp] theorem setGroup_downstreamOut : (setGroup g x s).downstreamOut = s.downstreamOut := rfl
@[simp] theorem setGroup_power : (setGroup g x s).power = s.power := rfl
@[simp] theorem setGroup_opp : (setGroup g x s).opp = s.opp := rfl
@[simp] theorem setGroup_faults : (setGroup g x s).faults = s.faults := rfl
@[simp] theorem setGroup_faultOrder : (setGroup g x s).faultOrder = s.faultOrder := rfl
@[simp] theorem setGroup_events : (setGroup g x s).events = s.events := rfl
@[simp] theorem setGroup_counters : (setGroup g x s).counters = s.counters := rfl
@[simp] theorem setGroup_resetRecord : (setGroup g x s).resetRecord = s.resetRecord := rfl
@[simp] theorem setGroup_regs : (setGroup g x s).regs = s.regs := rfl
@[simp] theorem setGroup_chipSelectLow : (setGroup g x s).chipSelectLow = s.chipSelectLow := rfl
@[simp] theorem setGroup_serialIn : (setGroup g x s).serialIn = s.serialIn := rfl
@[simp] theorem setGroup_frame : (setGroup g x s).frame = s.frame := rfl
end setGroup

section setInitiator
variable (i : InitIx) (x : Initiator) (s : State)
@[simp] theorem setInitiator_pending : (setInitiator i x s).pending = s.pending := rfl
@[simp] theorem setInitiator_resetPin : (setInitiator i x s).resetPin = s.resetPin := rfl
@[simp] theorem setInitiator_initiators : (setInitiator i x s).initiators = s.initiators.set i x := rfl
@[simp] theorem setInitiator_upstreamOut : (setInitiator i x s).upstreamOut = s.upstreamOut := rfl
@[simp] theorem setInitiator_regions : (setInitiator i x s).regions = s.regions := rfl
@[simp] theorem setInitiator_entries : (setInitiator i x s).entries = s.entries := rfl
@[simp] theorem setInitiator_ageList : (setInitiator i x s).ageList = s.ageList := rfl
@[simp] theorem setInitiator_seqCounter : (setInitiator i x s).seqCounter = s.seqCounter := rfl
@[simp] theorem setInitiator_counts : (setInitiator i x s).counts = s.counts := rfl
@[simp] theorem setInitiator_reads : (setInitiator i x s).reads = s.reads := rfl
@[simp] theorem setInitiator_groups : (setInitiator i x s).groups = s.groups := rfl
@[simp] theorem setInitiator_drains : (setInitiator i x s).drains = s.drains := rfl
@[simp] theorem setInitiator_timestamp : (setInitiator i x s).timestamp = s.timestamp := rfl
@[simp] theorem setInitiator_divider : (setInitiator i x s).divider = s.divider := rfl
@[simp] theorem setInitiator_slots : (setInitiator i x s).slots = s.slots := rfl
@[simp] theorem setInitiator_passRetries : (setInitiator i x s).passRetries = s.passRetries := rfl
@[simp] theorem setInitiator_releaseRetries : (setInitiator i x s).releaseRetries = s.releaseRetries := rfl
@[simp] theorem setInitiator_pressure : (setInitiator i x s).pressure = s.pressure := rfl
@[simp] theorem setInitiator_respLimitSeen : (setInitiator i x s).respLimitSeen = s.respLimitSeen := rfl
@[simp] theorem setInitiator_downstreamOut : (setInitiator i x s).downstreamOut = s.downstreamOut := rfl
@[simp] theorem setInitiator_power : (setInitiator i x s).power = s.power := rfl
@[simp] theorem setInitiator_opp : (setInitiator i x s).opp = s.opp := rfl
@[simp] theorem setInitiator_faults : (setInitiator i x s).faults = s.faults := rfl
@[simp] theorem setInitiator_faultOrder : (setInitiator i x s).faultOrder = s.faultOrder := rfl
@[simp] theorem setInitiator_events : (setInitiator i x s).events = s.events := rfl
@[simp] theorem setInitiator_counters : (setInitiator i x s).counters = s.counters := rfl
@[simp] theorem setInitiator_resetRecord : (setInitiator i x s).resetRecord = s.resetRecord := rfl
@[simp] theorem setInitiator_regs : (setInitiator i x s).regs = s.regs := rfl
@[simp] theorem setInitiator_chipSelectLow : (setInitiator i x s).chipSelectLow = s.chipSelectLow := rfl
@[simp] theorem setInitiator_serialIn : (setInitiator i x s).serialIn = s.serialIn := rfl
@[simp] theorem setInitiator_frame : (setInitiator i x s).frame = s.frame := rfl
end setInitiator

section setSlot
variable (k : TagIx) (x : Slot) (s : State)
@[simp] theorem setSlot_pending : (setSlot k x s).pending = s.pending := rfl
@[simp] theorem setSlot_resetPin : (setSlot k x s).resetPin = s.resetPin := rfl
@[simp] theorem setSlot_initiators : (setSlot k x s).initiators = s.initiators := rfl
@[simp] theorem setSlot_upstreamOut : (setSlot k x s).upstreamOut = s.upstreamOut := rfl
@[simp] theorem setSlot_regions : (setSlot k x s).regions = s.regions := rfl
@[simp] theorem setSlot_entries : (setSlot k x s).entries = s.entries := rfl
@[simp] theorem setSlot_ageList : (setSlot k x s).ageList = s.ageList := rfl
@[simp] theorem setSlot_seqCounter : (setSlot k x s).seqCounter = s.seqCounter := rfl
@[simp] theorem setSlot_counts : (setSlot k x s).counts = s.counts := rfl
@[simp] theorem setSlot_reads : (setSlot k x s).reads = s.reads := rfl
@[simp] theorem setSlot_groups : (setSlot k x s).groups = s.groups := rfl
@[simp] theorem setSlot_drains : (setSlot k x s).drains = s.drains := rfl
@[simp] theorem setSlot_timestamp : (setSlot k x s).timestamp = s.timestamp := rfl
@[simp] theorem setSlot_divider : (setSlot k x s).divider = s.divider := rfl
@[simp] theorem setSlot_slots : (setSlot k x s).slots = s.slots.set k x := rfl
@[simp] theorem setSlot_passRetries : (setSlot k x s).passRetries = s.passRetries := rfl
@[simp] theorem setSlot_releaseRetries : (setSlot k x s).releaseRetries = s.releaseRetries := rfl
@[simp] theorem setSlot_pressure : (setSlot k x s).pressure = s.pressure := rfl
@[simp] theorem setSlot_respLimitSeen : (setSlot k x s).respLimitSeen = s.respLimitSeen := rfl
@[simp] theorem setSlot_downstreamOut : (setSlot k x s).downstreamOut = s.downstreamOut := rfl
@[simp] theorem setSlot_power : (setSlot k x s).power = s.power := rfl
@[simp] theorem setSlot_opp : (setSlot k x s).opp = s.opp := rfl
@[simp] theorem setSlot_faults : (setSlot k x s).faults = s.faults := rfl
@[simp] theorem setSlot_faultOrder : (setSlot k x s).faultOrder = s.faultOrder := rfl
@[simp] theorem setSlot_events : (setSlot k x s).events = s.events := rfl
@[simp] theorem setSlot_counters : (setSlot k x s).counters = s.counters := rfl
@[simp] theorem setSlot_resetRecord : (setSlot k x s).resetRecord = s.resetRecord := rfl
@[simp] theorem setSlot_regs : (setSlot k x s).regs = s.regs := rfl
@[simp] theorem setSlot_chipSelectLow : (setSlot k x s).chipSelectLow = s.chipSelectLow := rfl
@[simp] theorem setSlot_serialIn : (setSlot k x s).serialIn = s.serialIn := rfl
@[simp] theorem setSlot_frame : (setSlot k x s).frame = s.frame := rfl
end setSlot

section setPower
variable (p : Power) (s : State)
@[simp] theorem setPower_pending : (setPower p s).pending = s.pending := rfl
@[simp] theorem setPower_resetPin : (setPower p s).resetPin = s.resetPin := rfl
@[simp] theorem setPower_initiators : (setPower p s).initiators = s.initiators := rfl
@[simp] theorem setPower_upstreamOut : (setPower p s).upstreamOut = s.upstreamOut := rfl
@[simp] theorem setPower_regions : (setPower p s).regions = s.regions := rfl
@[simp] theorem setPower_entries : (setPower p s).entries = s.entries := rfl
@[simp] theorem setPower_ageList : (setPower p s).ageList = s.ageList := rfl
@[simp] theorem setPower_seqCounter : (setPower p s).seqCounter = s.seqCounter := rfl
@[simp] theorem setPower_counts : (setPower p s).counts = s.counts := rfl
@[simp] theorem setPower_reads : (setPower p s).reads = s.reads := rfl
@[simp] theorem setPower_groups : (setPower p s).groups = s.groups := rfl
@[simp] theorem setPower_drains : (setPower p s).drains = s.drains := rfl
@[simp] theorem setPower_timestamp : (setPower p s).timestamp = s.timestamp := rfl
@[simp] theorem setPower_divider : (setPower p s).divider = s.divider := rfl
@[simp] theorem setPower_slots : (setPower p s).slots = s.slots := rfl
@[simp] theorem setPower_passRetries : (setPower p s).passRetries = s.passRetries := rfl
@[simp] theorem setPower_releaseRetries : (setPower p s).releaseRetries = s.releaseRetries := rfl
@[simp] theorem setPower_pressure : (setPower p s).pressure = s.pressure := rfl
@[simp] theorem setPower_respLimitSeen : (setPower p s).respLimitSeen = s.respLimitSeen := rfl
@[simp] theorem setPower_downstreamOut : (setPower p s).downstreamOut = s.downstreamOut := rfl
@[simp] theorem setPower_power : (setPower p s).power = p := rfl
@[simp] theorem setPower_opp : (setPower p s).opp = s.opp := rfl
@[simp] theorem setPower_faults : (setPower p s).faults = s.faults := rfl
@[simp] theorem setPower_faultOrder : (setPower p s).faultOrder = s.faultOrder := rfl
@[simp] theorem setPower_events : (setPower p s).events = s.events := rfl
@[simp] theorem setPower_counters : (setPower p s).counters = s.counters := rfl
@[simp] theorem setPower_resetRecord : (setPower p s).resetRecord = s.resetRecord := rfl
@[simp] theorem setPower_regs : (setPower p s).regs = s.regs := rfl
@[simp] theorem setPower_chipSelectLow : (setPower p s).chipSelectLow = s.chipSelectLow := rfl
@[simp] theorem setPower_serialIn : (setPower p s).serialIn = s.serialIn := rfl
@[simp] theorem setPower_frame : (setPower p s).frame = s.frame := rfl
end setPower

section setRegs
variable (r : Regs) (s : State)
@[simp] theorem setRegs_pending : (setRegs r s).pending = s.pending := rfl
@[simp] theorem setRegs_resetPin : (setRegs r s).resetPin = s.resetPin := rfl
@[simp] theorem setRegs_initiators : (setRegs r s).initiators = s.initiators := rfl
@[simp] theorem setRegs_upstreamOut : (setRegs r s).upstreamOut = s.upstreamOut := rfl
@[simp] theorem setRegs_regions : (setRegs r s).regions = s.regions := rfl
@[simp] theorem setRegs_entries : (setRegs r s).entries = s.entries := rfl
@[simp] theorem setRegs_ageList : (setRegs r s).ageList = s.ageList := rfl
@[simp] theorem setRegs_seqCounter : (setRegs r s).seqCounter = s.seqCounter := rfl
@[simp] theorem setRegs_counts : (setRegs r s).counts = s.counts := rfl
@[simp] theorem setRegs_reads : (setRegs r s).reads = s.reads := rfl
@[simp] theorem setRegs_groups : (setRegs r s).groups = s.groups := rfl
@[simp] theorem setRegs_drains : (setRegs r s).drains = s.drains := rfl
@[simp] theorem setRegs_timestamp : (setRegs r s).timestamp = s.timestamp := rfl
@[simp] theorem setRegs_divider : (setRegs r s).divider = s.divider := rfl
@[simp] theorem setRegs_slots : (setRegs r s).slots = s.slots := rfl
@[simp] theorem setRegs_passRetries : (setRegs r s).passRetries = s.passRetries := rfl
@[simp] theorem setRegs_releaseRetries : (setRegs r s).releaseRetries = s.releaseRetries := rfl
@[simp] theorem setRegs_pressure : (setRegs r s).pressure = s.pressure := rfl
@[simp] theorem setRegs_respLimitSeen : (setRegs r s).respLimitSeen = s.respLimitSeen := rfl
@[simp] theorem setRegs_downstreamOut : (setRegs r s).downstreamOut = s.downstreamOut := rfl
@[simp] theorem setRegs_power : (setRegs r s).power = s.power := rfl
@[simp] theorem setRegs_opp : (setRegs r s).opp = s.opp := rfl
@[simp] theorem setRegs_faults : (setRegs r s).faults = s.faults := rfl
@[simp] theorem setRegs_faultOrder : (setRegs r s).faultOrder = s.faultOrder := rfl
@[simp] theorem setRegs_events : (setRegs r s).events = s.events := rfl
@[simp] theorem setRegs_counters : (setRegs r s).counters = s.counters := rfl
@[simp] theorem setRegs_resetRecord : (setRegs r s).resetRecord = s.resetRecord := rfl
@[simp] theorem setRegs_regs : (setRegs r s).regs = r := rfl
@[simp] theorem setRegs_chipSelectLow : (setRegs r s).chipSelectLow = s.chipSelectLow := rfl
@[simp] theorem setRegs_serialIn : (setRegs r s).serialIn = s.serialIn := rfl
@[simp] theorem setRegs_frame : (setRegs r s).frame = s.frame := rfl
end setRegs

section setCounts
variable (c : Counts) (s : State)
@[simp] theorem setCounts_pending : (setCounts c s).pending = s.pending := rfl
@[simp] theorem setCounts_resetPin : (setCounts c s).resetPin = s.resetPin := rfl
@[simp] theorem setCounts_initiators : (setCounts c s).initiators = s.initiators := rfl
@[simp] theorem setCounts_upstreamOut : (setCounts c s).upstreamOut = s.upstreamOut := rfl
@[simp] theorem setCounts_regions : (setCounts c s).regions = s.regions := rfl
@[simp] theorem setCounts_entries : (setCounts c s).entries = s.entries := rfl
@[simp] theorem setCounts_ageList : (setCounts c s).ageList = s.ageList := rfl
@[simp] theorem setCounts_seqCounter : (setCounts c s).seqCounter = s.seqCounter := rfl
@[simp] theorem setCounts_counts : (setCounts c s).counts = c := rfl
@[simp] theorem setCounts_reads : (setCounts c s).reads = s.reads := rfl
@[simp] theorem setCounts_groups : (setCounts c s).groups = s.groups := rfl
@[simp] theorem setCounts_drains : (setCounts c s).drains = s.drains := rfl
@[simp] theorem setCounts_timestamp : (setCounts c s).timestamp = s.timestamp := rfl
@[simp] theorem setCounts_divider : (setCounts c s).divider = s.divider := rfl
@[simp] theorem setCounts_slots : (setCounts c s).slots = s.slots := rfl
@[simp] theorem setCounts_passRetries : (setCounts c s).passRetries = s.passRetries := rfl
@[simp] theorem setCounts_releaseRetries : (setCounts c s).releaseRetries = s.releaseRetries := rfl
@[simp] theorem setCounts_pressure : (setCounts c s).pressure = s.pressure := rfl
@[simp] theorem setCounts_respLimitSeen : (setCounts c s).respLimitSeen = s.respLimitSeen := rfl
@[simp] theorem setCounts_downstreamOut : (setCounts c s).downstreamOut = s.downstreamOut := rfl
@[simp] theorem setCounts_power : (setCounts c s).power = s.power := rfl
@[simp] theorem setCounts_opp : (setCounts c s).opp = s.opp := rfl
@[simp] theorem setCounts_faults : (setCounts c s).faults = s.faults := rfl
@[simp] theorem setCounts_faultOrder : (setCounts c s).faultOrder = s.faultOrder := rfl
@[simp] theorem setCounts_events : (setCounts c s).events = s.events := rfl
@[simp] theorem setCounts_counters : (setCounts c s).counters = s.counters := rfl
@[simp] theorem setCounts_resetRecord : (setCounts c s).resetRecord = s.resetRecord := rfl
@[simp] theorem setCounts_regs : (setCounts c s).regs = s.regs := rfl
@[simp] theorem setCounts_chipSelectLow : (setCounts c s).chipSelectLow = s.chipSelectLow := rfl
@[simp] theorem setCounts_serialIn : (setCounts c s).serialIn = s.serialIn := rfl
@[simp] theorem setCounts_frame : (setCounts c s).frame = s.frame := rfl
end setCounts

section setFrame
variable (f : Option Frame) (s : State)
@[simp] theorem setFrame_pending : (setFrame f s).pending = s.pending := rfl
@[simp] theorem setFrame_resetPin : (setFrame f s).resetPin = s.resetPin := rfl
@[simp] theorem setFrame_initiators : (setFrame f s).initiators = s.initiators := rfl
@[simp] theorem setFrame_upstreamOut : (setFrame f s).upstreamOut = s.upstreamOut := rfl
@[simp] theorem setFrame_regions : (setFrame f s).regions = s.regions := rfl
@[simp] theorem setFrame_entries : (setFrame f s).entries = s.entries := rfl
@[simp] theorem setFrame_ageList : (setFrame f s).ageList = s.ageList := rfl
@[simp] theorem setFrame_seqCounter : (setFrame f s).seqCounter = s.seqCounter := rfl
@[simp] theorem setFrame_counts : (setFrame f s).counts = s.counts := rfl
@[simp] theorem setFrame_reads : (setFrame f s).reads = s.reads := rfl
@[simp] theorem setFrame_groups : (setFrame f s).groups = s.groups := rfl
@[simp] theorem setFrame_drains : (setFrame f s).drains = s.drains := rfl
@[simp] theorem setFrame_timestamp : (setFrame f s).timestamp = s.timestamp := rfl
@[simp] theorem setFrame_divider : (setFrame f s).divider = s.divider := rfl
@[simp] theorem setFrame_slots : (setFrame f s).slots = s.slots := rfl
@[simp] theorem setFrame_passRetries : (setFrame f s).passRetries = s.passRetries := rfl
@[simp] theorem setFrame_releaseRetries : (setFrame f s).releaseRetries = s.releaseRetries := rfl
@[simp] theorem setFrame_pressure : (setFrame f s).pressure = s.pressure := rfl
@[simp] theorem setFrame_respLimitSeen : (setFrame f s).respLimitSeen = s.respLimitSeen := rfl
@[simp] theorem setFrame_downstreamOut : (setFrame f s).downstreamOut = s.downstreamOut := rfl
@[simp] theorem setFrame_power : (setFrame f s).power = s.power := rfl
@[simp] theorem setFrame_opp : (setFrame f s).opp = s.opp := rfl
@[simp] theorem setFrame_faults : (setFrame f s).faults = s.faults := rfl
@[simp] theorem setFrame_faultOrder : (setFrame f s).faultOrder = s.faultOrder := rfl
@[simp] theorem setFrame_events : (setFrame f s).events = s.events := rfl
@[simp] theorem setFrame_counters : (setFrame f s).counters = s.counters := rfl
@[simp] theorem setFrame_resetRecord : (setFrame f s).resetRecord = s.resetRecord := rfl
@[simp] theorem setFrame_regs : (setFrame f s).regs = s.regs := rfl
@[simp] theorem setFrame_chipSelectLow : (setFrame f s).chipSelectLow = s.chipSelectLow := rfl
@[simp] theorem setFrame_serialIn : (setFrame f s).serialIn = s.serialIn := rfl
@[simp] theorem setFrame_frame : (setFrame f s).frame = f := rfl
end setFrame

section sendDown
variable (m : DownMessage) (s : State)
@[simp] theorem sendDown_pending : (sendDown m s).pending = s.pending := rfl
@[simp] theorem sendDown_resetPin : (sendDown m s).resetPin = s.resetPin := rfl
@[simp] theorem sendDown_initiators : (sendDown m s).initiators = s.initiators := rfl
@[simp] theorem sendDown_upstreamOut : (sendDown m s).upstreamOut = s.upstreamOut := rfl
@[simp] theorem sendDown_regions : (sendDown m s).regions = s.regions := rfl
@[simp] theorem sendDown_entries : (sendDown m s).entries = s.entries := rfl
@[simp] theorem sendDown_ageList : (sendDown m s).ageList = s.ageList := rfl
@[simp] theorem sendDown_seqCounter : (sendDown m s).seqCounter = s.seqCounter := rfl
@[simp] theorem sendDown_counts : (sendDown m s).counts = s.counts := rfl
@[simp] theorem sendDown_reads : (sendDown m s).reads = s.reads := rfl
@[simp] theorem sendDown_groups : (sendDown m s).groups = s.groups := rfl
@[simp] theorem sendDown_drains : (sendDown m s).drains = s.drains := rfl
@[simp] theorem sendDown_timestamp : (sendDown m s).timestamp = s.timestamp := rfl
@[simp] theorem sendDown_divider : (sendDown m s).divider = s.divider := rfl
@[simp] theorem sendDown_slots : (sendDown m s).slots = s.slots := rfl
@[simp] theorem sendDown_passRetries : (sendDown m s).passRetries = s.passRetries := rfl
@[simp] theorem sendDown_releaseRetries : (sendDown m s).releaseRetries = s.releaseRetries := rfl
@[simp] theorem sendDown_pressure : (sendDown m s).pressure = s.pressure := rfl
@[simp] theorem sendDown_respLimitSeen : (sendDown m s).respLimitSeen = s.respLimitSeen := rfl
@[simp] theorem sendDown_downstreamOut : (sendDown m s).downstreamOut = s.downstreamOut ++ [m] := rfl
@[simp] theorem sendDown_power : (sendDown m s).power = s.power := rfl
@[simp] theorem sendDown_opp : (sendDown m s).opp = s.opp := rfl
@[simp] theorem sendDown_faults : (sendDown m s).faults = s.faults := rfl
@[simp] theorem sendDown_faultOrder : (sendDown m s).faultOrder = s.faultOrder := rfl
@[simp] theorem sendDown_events : (sendDown m s).events = s.events := rfl
@[simp] theorem sendDown_counters : (sendDown m s).counters = s.counters := rfl
@[simp] theorem sendDown_resetRecord : (sendDown m s).resetRecord = s.resetRecord := rfl
@[simp] theorem sendDown_regs : (sendDown m s).regs = s.regs := rfl
@[simp] theorem sendDown_chipSelectLow : (sendDown m s).chipSelectLow = s.chipSelectLow := rfl
@[simp] theorem sendDown_serialIn : (sendDown m s).serialIn = s.serialIn := rfl
@[simp] theorem sendDown_frame : (sendDown m s).frame = s.frame := rfl
end sendDown

section sendUp
variable (m : UpMessage) (s : State)
@[simp] theorem sendUp_pending : (sendUp m s).pending = s.pending := rfl
@[simp] theorem sendUp_resetPin : (sendUp m s).resetPin = s.resetPin := rfl
@[simp] theorem sendUp_initiators : (sendUp m s).initiators = s.initiators := rfl
@[simp] theorem sendUp_upstreamOut : (sendUp m s).upstreamOut = s.upstreamOut ++ [m] := rfl
@[simp] theorem sendUp_regions : (sendUp m s).regions = s.regions := rfl
@[simp] theorem sendUp_entries : (sendUp m s).entries = s.entries := rfl
@[simp] theorem sendUp_ageList : (sendUp m s).ageList = s.ageList := rfl
@[simp] theorem sendUp_seqCounter : (sendUp m s).seqCounter = s.seqCounter := rfl
@[simp] theorem sendUp_counts : (sendUp m s).counts = s.counts := rfl
@[simp] theorem sendUp_reads : (sendUp m s).reads = s.reads := rfl
@[simp] theorem sendUp_groups : (sendUp m s).groups = s.groups := rfl
@[simp] theorem sendUp_drains : (sendUp m s).drains = s.drains := rfl
@[simp] theorem sendUp_timestamp : (sendUp m s).timestamp = s.timestamp := rfl
@[simp] theorem sendUp_divider : (sendUp m s).divider = s.divider := rfl
@[simp] theorem sendUp_slots : (sendUp m s).slots = s.slots := rfl
@[simp] theorem sendUp_passRetries : (sendUp m s).passRetries = s.passRetries := rfl
@[simp] theorem sendUp_releaseRetries : (sendUp m s).releaseRetries = s.releaseRetries := rfl
@[simp] theorem sendUp_pressure : (sendUp m s).pressure = s.pressure := rfl
@[simp] theorem sendUp_respLimitSeen : (sendUp m s).respLimitSeen = s.respLimitSeen := rfl
@[simp] theorem sendUp_downstreamOut : (sendUp m s).downstreamOut = s.downstreamOut := rfl
@[simp] theorem sendUp_power : (sendUp m s).power = s.power := rfl
@[simp] theorem sendUp_opp : (sendUp m s).opp = s.opp := rfl
@[simp] theorem sendUp_faults : (sendUp m s).faults = s.faults := rfl
@[simp] theorem sendUp_faultOrder : (sendUp m s).faultOrder = s.faultOrder := rfl
@[simp] theorem sendUp_events : (sendUp m s).events = s.events := rfl
@[simp] theorem sendUp_counters : (sendUp m s).counters = s.counters := rfl
@[simp] theorem sendUp_resetRecord : (sendUp m s).resetRecord = s.resetRecord := rfl
@[simp] theorem sendUp_regs : (sendUp m s).regs = s.regs := rfl
@[simp] theorem sendUp_chipSelectLow : (sendUp m s).chipSelectLow = s.chipSelectLow := rfl
@[simp] theorem sendUp_serialIn : (sendUp m s).serialIn = s.serialIn := rfl
@[simp] theorem sendUp_frame : (sendUp m s).frame = s.frame := rfl
end sendUp

section raise
variable (c : EventCause) (s : State)
@[simp] theorem raise_pending : (raise c s).pending = s.pending := rfl
@[simp] theorem raise_resetPin : (raise c s).resetPin = s.resetPin := rfl
@[simp] theorem raise_initiators : (raise c s).initiators = s.initiators := rfl
@[simp] theorem raise_upstreamOut : (raise c s).upstreamOut = s.upstreamOut := rfl
@[simp] theorem raise_regions : (raise c s).regions = s.regions := rfl
@[simp] theorem raise_entries : (raise c s).entries = s.entries := rfl
@[simp] theorem raise_ageList : (raise c s).ageList = s.ageList := rfl
@[simp] theorem raise_seqCounter : (raise c s).seqCounter = s.seqCounter := rfl
@[simp] theorem raise_counts : (raise c s).counts = s.counts := rfl
@[simp] theorem raise_reads : (raise c s).reads = s.reads := rfl
@[simp] theorem raise_groups : (raise c s).groups = s.groups := rfl
@[simp] theorem raise_drains : (raise c s).drains = s.drains := rfl
@[simp] theorem raise_timestamp : (raise c s).timestamp = s.timestamp := rfl
@[simp] theorem raise_divider : (raise c s).divider = s.divider := rfl
@[simp] theorem raise_slots : (raise c s).slots = s.slots := rfl
@[simp] theorem raise_passRetries : (raise c s).passRetries = s.passRetries := rfl
@[simp] theorem raise_releaseRetries : (raise c s).releaseRetries = s.releaseRetries := rfl
@[simp] theorem raise_pressure : (raise c s).pressure = s.pressure := rfl
@[simp] theorem raise_respLimitSeen : (raise c s).respLimitSeen = s.respLimitSeen := rfl
@[simp] theorem raise_downstreamOut : (raise c s).downstreamOut = s.downstreamOut := rfl
@[simp] theorem raise_power : (raise c s).power = s.power := rfl
@[simp] theorem raise_opp : (raise c s).opp = s.opp := rfl
@[simp] theorem raise_faults : (raise c s).faults = s.faults := rfl
@[simp] theorem raise_faultOrder : (raise c s).faultOrder = s.faultOrder := rfl
@[simp] theorem raise_events : (raise c s).events = s.events ||| eventValue c := rfl
@[simp] theorem raise_counters : (raise c s).counters = s.counters := rfl
@[simp] theorem raise_resetRecord : (raise c s).resetRecord = s.resetRecord := rfl
@[simp] theorem raise_regs : (raise c s).regs = s.regs := rfl
@[simp] theorem raise_chipSelectLow : (raise c s).chipSelectLow = s.chipSelectLow := rfl
@[simp] theorem raise_serialIn : (raise c s).serialIn = s.serialIn := rfl
@[simp] theorem raise_frame : (raise c s).frame = s.frame := rfl
end raise

section countWake
variable (s : State)
@[simp] theorem countWake_pending : (countWake s).pending = s.pending := rfl
@[simp] theorem countWake_resetPin : (countWake s).resetPin = s.resetPin := rfl
@[simp] theorem countWake_initiators : (countWake s).initiators = s.initiators := rfl
@[simp] theorem countWake_upstreamOut : (countWake s).upstreamOut = s.upstreamOut := rfl
@[simp] theorem countWake_regions : (countWake s).regions = s.regions := rfl
@[simp] theorem countWake_entries : (countWake s).entries = s.entries := rfl
@[simp] theorem countWake_ageList : (countWake s).ageList = s.ageList := rfl
@[simp] theorem countWake_seqCounter : (countWake s).seqCounter = s.seqCounter := rfl
@[simp] theorem countWake_counts : (countWake s).counts = s.counts := rfl
@[simp] theorem countWake_reads : (countWake s).reads = s.reads := rfl
@[simp] theorem countWake_groups : (countWake s).groups = s.groups := rfl
@[simp] theorem countWake_drains : (countWake s).drains = s.drains := rfl
@[simp] theorem countWake_timestamp : (countWake s).timestamp = s.timestamp := rfl
@[simp] theorem countWake_divider : (countWake s).divider = s.divider := rfl
@[simp] theorem countWake_slots : (countWake s).slots = s.slots := rfl
@[simp] theorem countWake_passRetries : (countWake s).passRetries = s.passRetries := rfl
@[simp] theorem countWake_releaseRetries : (countWake s).releaseRetries = s.releaseRetries := rfl
@[simp] theorem countWake_pressure : (countWake s).pressure = s.pressure := rfl
@[simp] theorem countWake_respLimitSeen : (countWake s).respLimitSeen = s.respLimitSeen := rfl
@[simp] theorem countWake_downstreamOut : (countWake s).downstreamOut = s.downstreamOut := rfl
@[simp] theorem countWake_power : (countWake s).power = s.power := rfl
@[simp] theorem countWake_opp : (countWake s).opp = s.opp := rfl
@[simp] theorem countWake_faults : (countWake s).faults = s.faults := rfl
@[simp] theorem countWake_faultOrder : (countWake s).faultOrder = s.faultOrder := rfl
@[simp] theorem countWake_events : (countWake s).events = s.events := rfl
@[simp] theorem countWake_counters : (countWake s).counters = { s.counters with wakes := s.counters.wakes + 1 } := rfl
@[simp] theorem countWake_resetRecord : (countWake s).resetRecord = s.resetRecord := rfl
@[simp] theorem countWake_regs : (countWake s).regs = s.regs := rfl
@[simp] theorem countWake_chipSelectLow : (countWake s).chipSelectLow = s.chipSelectLow := rfl
@[simp] theorem countWake_serialIn : (countWake s).serialIn = s.serialIn := rfl
@[simp] theorem countWake_frame : (countWake s).frame = s.frame := rfl
end countWake

section countSleep
variable (s : State)
@[simp] theorem countSleep_pending : (countSleep s).pending = s.pending := rfl
@[simp] theorem countSleep_resetPin : (countSleep s).resetPin = s.resetPin := rfl
@[simp] theorem countSleep_initiators : (countSleep s).initiators = s.initiators := rfl
@[simp] theorem countSleep_upstreamOut : (countSleep s).upstreamOut = s.upstreamOut := rfl
@[simp] theorem countSleep_regions : (countSleep s).regions = s.regions := rfl
@[simp] theorem countSleep_entries : (countSleep s).entries = s.entries := rfl
@[simp] theorem countSleep_ageList : (countSleep s).ageList = s.ageList := rfl
@[simp] theorem countSleep_seqCounter : (countSleep s).seqCounter = s.seqCounter := rfl
@[simp] theorem countSleep_counts : (countSleep s).counts = s.counts := rfl
@[simp] theorem countSleep_reads : (countSleep s).reads = s.reads := rfl
@[simp] theorem countSleep_groups : (countSleep s).groups = s.groups := rfl
@[simp] theorem countSleep_drains : (countSleep s).drains = s.drains := rfl
@[simp] theorem countSleep_timestamp : (countSleep s).timestamp = s.timestamp := rfl
@[simp] theorem countSleep_divider : (countSleep s).divider = s.divider := rfl
@[simp] theorem countSleep_slots : (countSleep s).slots = s.slots := rfl
@[simp] theorem countSleep_passRetries : (countSleep s).passRetries = s.passRetries := rfl
@[simp] theorem countSleep_releaseRetries : (countSleep s).releaseRetries = s.releaseRetries := rfl
@[simp] theorem countSleep_pressure : (countSleep s).pressure = s.pressure := rfl
@[simp] theorem countSleep_respLimitSeen : (countSleep s).respLimitSeen = s.respLimitSeen := rfl
@[simp] theorem countSleep_downstreamOut : (countSleep s).downstreamOut = s.downstreamOut := rfl
@[simp] theorem countSleep_power : (countSleep s).power = s.power := rfl
@[simp] theorem countSleep_opp : (countSleep s).opp = s.opp := rfl
@[simp] theorem countSleep_faults : (countSleep s).faults = s.faults := rfl
@[simp] theorem countSleep_faultOrder : (countSleep s).faultOrder = s.faultOrder := rfl
@[simp] theorem countSleep_events : (countSleep s).events = s.events := rfl
@[simp] theorem countSleep_counters : (countSleep s).counters = { s.counters with sleeps := s.counters.sleeps + 1 } := rfl
@[simp] theorem countSleep_resetRecord : (countSleep s).resetRecord = s.resetRecord := rfl
@[simp] theorem countSleep_regs : (countSleep s).regs = s.regs := rfl
@[simp] theorem countSleep_chipSelectLow : (countSleep s).chipSelectLow = s.chipSelectLow := rfl
@[simp] theorem countSleep_serialIn : (countSleep s).serialIn = s.serialIn := rfl
@[simp] theorem countSleep_frame : (countSleep s).frame = s.frame := rfl
end countSleep

section countFullHit
variable (s : State)
@[simp] theorem countFullHit_pending : (countFullHit s).pending = s.pending := rfl
@[simp] theorem countFullHit_resetPin : (countFullHit s).resetPin = s.resetPin := rfl
@[simp] theorem countFullHit_initiators : (countFullHit s).initiators = s.initiators := rfl
@[simp] theorem countFullHit_upstreamOut : (countFullHit s).upstreamOut = s.upstreamOut := rfl
@[simp] theorem countFullHit_regions : (countFullHit s).regions = s.regions := rfl
@[simp] theorem countFullHit_entries : (countFullHit s).entries = s.entries := rfl
@[simp] theorem countFullHit_ageList : (countFullHit s).ageList = s.ageList := rfl
@[simp] theorem countFullHit_seqCounter : (countFullHit s).seqCounter = s.seqCounter := rfl
@[simp] theorem countFullHit_counts : (countFullHit s).counts = s.counts := rfl
@[simp] theorem countFullHit_reads : (countFullHit s).reads = s.reads := rfl
@[simp] theorem countFullHit_groups : (countFullHit s).groups = s.groups := rfl
@[simp] theorem countFullHit_drains : (countFullHit s).drains = s.drains := rfl
@[simp] theorem countFullHit_timestamp : (countFullHit s).timestamp = s.timestamp := rfl
@[simp] theorem countFullHit_divider : (countFullHit s).divider = s.divider := rfl
@[simp] theorem countFullHit_slots : (countFullHit s).slots = s.slots := rfl
@[simp] theorem countFullHit_passRetries : (countFullHit s).passRetries = s.passRetries := rfl
@[simp] theorem countFullHit_releaseRetries : (countFullHit s).releaseRetries = s.releaseRetries := rfl
@[simp] theorem countFullHit_pressure : (countFullHit s).pressure = s.pressure := rfl
@[simp] theorem countFullHit_respLimitSeen : (countFullHit s).respLimitSeen = s.respLimitSeen := rfl
@[simp] theorem countFullHit_downstreamOut : (countFullHit s).downstreamOut = s.downstreamOut := rfl
@[simp] theorem countFullHit_power : (countFullHit s).power = s.power := rfl
@[simp] theorem countFullHit_opp : (countFullHit s).opp = s.opp := rfl
@[simp] theorem countFullHit_faults : (countFullHit s).faults = s.faults := rfl
@[simp] theorem countFullHit_faultOrder : (countFullHit s).faultOrder = s.faultOrder := rfl
@[simp] theorem countFullHit_events : (countFullHit s).events = s.events := rfl
@[simp] theorem countFullHit_counters : (countFullHit s).counters = { s.counters with fullHits := s.counters.fullHits + 1 } := rfl
@[simp] theorem countFullHit_resetRecord : (countFullHit s).resetRecord = s.resetRecord := rfl
@[simp] theorem countFullHit_regs : (countFullHit s).regs = s.regs := rfl
@[simp] theorem countFullHit_chipSelectLow : (countFullHit s).chipSelectLow = s.chipSelectLow := rfl
@[simp] theorem countFullHit_serialIn : (countFullHit s).serialIn = s.serialIn := rfl
@[simp] theorem countFullHit_frame : (countFullHit s).frame = s.frame := rfl
end countFullHit

section countThroughWrite
variable (s : State)
@[simp] theorem countThroughWrite_pending : (countThroughWrite s).pending = s.pending := rfl
@[simp] theorem countThroughWrite_resetPin : (countThroughWrite s).resetPin = s.resetPin := rfl
@[simp] theorem countThroughWrite_initiators : (countThroughWrite s).initiators = s.initiators := rfl
@[simp] theorem countThroughWrite_upstreamOut : (countThroughWrite s).upstreamOut = s.upstreamOut := rfl
@[simp] theorem countThroughWrite_regions : (countThroughWrite s).regions = s.regions := rfl
@[simp] theorem countThroughWrite_entries : (countThroughWrite s).entries = s.entries := rfl
@[simp] theorem countThroughWrite_ageList : (countThroughWrite s).ageList = s.ageList := rfl
@[simp] theorem countThroughWrite_seqCounter : (countThroughWrite s).seqCounter = s.seqCounter := rfl
@[simp] theorem countThroughWrite_counts : (countThroughWrite s).counts = s.counts := rfl
@[simp] theorem countThroughWrite_reads : (countThroughWrite s).reads = s.reads := rfl
@[simp] theorem countThroughWrite_groups : (countThroughWrite s).groups = s.groups := rfl
@[simp] theorem countThroughWrite_drains : (countThroughWrite s).drains = s.drains := rfl
@[simp] theorem countThroughWrite_timestamp : (countThroughWrite s).timestamp = s.timestamp := rfl
@[simp] theorem countThroughWrite_divider : (countThroughWrite s).divider = s.divider := rfl
@[simp] theorem countThroughWrite_slots : (countThroughWrite s).slots = s.slots := rfl
@[simp] theorem countThroughWrite_passRetries : (countThroughWrite s).passRetries = s.passRetries := rfl
@[simp] theorem countThroughWrite_releaseRetries : (countThroughWrite s).releaseRetries = s.releaseRetries := rfl
@[simp] theorem countThroughWrite_pressure : (countThroughWrite s).pressure = s.pressure := rfl
@[simp] theorem countThroughWrite_respLimitSeen : (countThroughWrite s).respLimitSeen = s.respLimitSeen := rfl
@[simp] theorem countThroughWrite_downstreamOut : (countThroughWrite s).downstreamOut = s.downstreamOut := rfl
@[simp] theorem countThroughWrite_power : (countThroughWrite s).power = s.power := rfl
@[simp] theorem countThroughWrite_opp : (countThroughWrite s).opp = s.opp := rfl
@[simp] theorem countThroughWrite_faults : (countThroughWrite s).faults = s.faults := rfl
@[simp] theorem countThroughWrite_faultOrder : (countThroughWrite s).faultOrder = s.faultOrder := rfl
@[simp] theorem countThroughWrite_events : (countThroughWrite s).events = s.events := rfl
@[simp] theorem countThroughWrite_counters : (countThroughWrite s).counters = { s.counters with throughWrites := s.counters.throughWrites + 1 } := rfl
@[simp] theorem countThroughWrite_resetRecord : (countThroughWrite s).resetRecord = s.resetRecord := rfl
@[simp] theorem countThroughWrite_regs : (countThroughWrite s).regs = s.regs := rfl
@[simp] theorem countThroughWrite_chipSelectLow : (countThroughWrite s).chipSelectLow = s.chipSelectLow := rfl
@[simp] theorem countThroughWrite_serialIn : (countThroughWrite s).serialIn = s.serialIn := rfl
@[simp] theorem countThroughWrite_frame : (countThroughWrite s).frame = s.frame := rfl
end countThroughWrite

section countRetry
variable (s : State)
@[simp] theorem countRetry_pending : (countRetry s).pending = s.pending := rfl
@[simp] theorem countRetry_resetPin : (countRetry s).resetPin = s.resetPin := rfl
@[simp] theorem countRetry_initiators : (countRetry s).initiators = s.initiators := rfl
@[simp] theorem countRetry_upstreamOut : (countRetry s).upstreamOut = s.upstreamOut := rfl
@[simp] theorem countRetry_regions : (countRetry s).regions = s.regions := rfl
@[simp] theorem countRetry_entries : (countRetry s).entries = s.entries := rfl
@[simp] theorem countRetry_ageList : (countRetry s).ageList = s.ageList := rfl
@[simp] theorem countRetry_seqCounter : (countRetry s).seqCounter = s.seqCounter := rfl
@[simp] theorem countRetry_counts : (countRetry s).counts = s.counts := rfl
@[simp] theorem countRetry_reads : (countRetry s).reads = s.reads := rfl
@[simp] theorem countRetry_groups : (countRetry s).groups = s.groups := rfl
@[simp] theorem countRetry_drains : (countRetry s).drains = s.drains := rfl
@[simp] theorem countRetry_timestamp : (countRetry s).timestamp = s.timestamp := rfl
@[simp] theorem countRetry_divider : (countRetry s).divider = s.divider := rfl
@[simp] theorem countRetry_slots : (countRetry s).slots = s.slots := rfl
@[simp] theorem countRetry_passRetries : (countRetry s).passRetries = s.passRetries := rfl
@[simp] theorem countRetry_releaseRetries : (countRetry s).releaseRetries = s.releaseRetries := rfl
@[simp] theorem countRetry_pressure : (countRetry s).pressure = s.pressure := rfl
@[simp] theorem countRetry_respLimitSeen : (countRetry s).respLimitSeen = s.respLimitSeen := rfl
@[simp] theorem countRetry_downstreamOut : (countRetry s).downstreamOut = s.downstreamOut := rfl
@[simp] theorem countRetry_power : (countRetry s).power = s.power := rfl
@[simp] theorem countRetry_opp : (countRetry s).opp = s.opp := rfl
@[simp] theorem countRetry_faults : (countRetry s).faults = s.faults := rfl
@[simp] theorem countRetry_faultOrder : (countRetry s).faultOrder = s.faultOrder := rfl
@[simp] theorem countRetry_events : (countRetry s).events = s.events := rfl
@[simp] theorem countRetry_counters : (countRetry s).counters = { s.counters with retries := s.counters.retries + 1 } := rfl
@[simp] theorem countRetry_resetRecord : (countRetry s).resetRecord = s.resetRecord := rfl
@[simp] theorem countRetry_regs : (countRetry s).regs = s.regs := rfl
@[simp] theorem countRetry_chipSelectLow : (countRetry s).chipSelectLow = s.chipSelectLow := rfl
@[simp] theorem countRetry_serialIn : (countRetry s).serialIn = s.serialIn := rfl
@[simp] theorem countRetry_frame : (countRetry s).frame = s.frame := rfl
end countRetry

section countDiscardedLine
variable (s : State)
@[simp] theorem countDiscardedLine_pending : (countDiscardedLine s).pending = s.pending := rfl
@[simp] theorem countDiscardedLine_resetPin : (countDiscardedLine s).resetPin = s.resetPin := rfl
@[simp] theorem countDiscardedLine_initiators : (countDiscardedLine s).initiators = s.initiators := rfl
@[simp] theorem countDiscardedLine_upstreamOut : (countDiscardedLine s).upstreamOut = s.upstreamOut := rfl
@[simp] theorem countDiscardedLine_regions : (countDiscardedLine s).regions = s.regions := rfl
@[simp] theorem countDiscardedLine_entries : (countDiscardedLine s).entries = s.entries := rfl
@[simp] theorem countDiscardedLine_ageList : (countDiscardedLine s).ageList = s.ageList := rfl
@[simp] theorem countDiscardedLine_seqCounter : (countDiscardedLine s).seqCounter = s.seqCounter := rfl
@[simp] theorem countDiscardedLine_counts : (countDiscardedLine s).counts = s.counts := rfl
@[simp] theorem countDiscardedLine_reads : (countDiscardedLine s).reads = s.reads := rfl
@[simp] theorem countDiscardedLine_groups : (countDiscardedLine s).groups = s.groups := rfl
@[simp] theorem countDiscardedLine_drains : (countDiscardedLine s).drains = s.drains := rfl
@[simp] theorem countDiscardedLine_timestamp : (countDiscardedLine s).timestamp = s.timestamp := rfl
@[simp] theorem countDiscardedLine_divider : (countDiscardedLine s).divider = s.divider := rfl
@[simp] theorem countDiscardedLine_slots : (countDiscardedLine s).slots = s.slots := rfl
@[simp] theorem countDiscardedLine_passRetries : (countDiscardedLine s).passRetries = s.passRetries := rfl
@[simp] theorem countDiscardedLine_releaseRetries : (countDiscardedLine s).releaseRetries = s.releaseRetries := rfl
@[simp] theorem countDiscardedLine_pressure : (countDiscardedLine s).pressure = s.pressure := rfl
@[simp] theorem countDiscardedLine_respLimitSeen : (countDiscardedLine s).respLimitSeen = s.respLimitSeen := rfl
@[simp] theorem countDiscardedLine_downstreamOut : (countDiscardedLine s).downstreamOut = s.downstreamOut := rfl
@[simp] theorem countDiscardedLine_power : (countDiscardedLine s).power = s.power := rfl
@[simp] theorem countDiscardedLine_opp : (countDiscardedLine s).opp = s.opp := rfl
@[simp] theorem countDiscardedLine_faults : (countDiscardedLine s).faults = s.faults := rfl
@[simp] theorem countDiscardedLine_faultOrder : (countDiscardedLine s).faultOrder = s.faultOrder := rfl
@[simp] theorem countDiscardedLine_events : (countDiscardedLine s).events = s.events := rfl
@[simp] theorem countDiscardedLine_counters : (countDiscardedLine s).counters = { s.counters with discardedLines := s.counters.discardedLines + 1 } := rfl
@[simp] theorem countDiscardedLine_resetRecord : (countDiscardedLine s).resetRecord = s.resetRecord := rfl
@[simp] theorem countDiscardedLine_regs : (countDiscardedLine s).regs = s.regs := rfl
@[simp] theorem countDiscardedLine_chipSelectLow : (countDiscardedLine s).chipSelectLow = s.chipSelectLow := rfl
@[simp] theorem countDiscardedLine_serialIn : (countDiscardedLine s).serialIn = s.serialIn := rfl
@[simp] theorem countDiscardedLine_frame : (countDiscardedLine s).frame = s.frame := rfl
end countDiscardedLine

end Sys2Proof.Machine
end

