-- ==== Sys2Proof/Laws/Internal.lean ====
section
/-! SUPPORT. Laws/Internal.lean: one relation that says once what the internal work of a command can do (group marks, wake
causes, responses, retired drains, the tests that end a step), and one lemma per shared operation that it stays within
that relation. A proof about a command cites these lemmas and does not unfold the operations. -/

namespace Sys2Proof.Machine

/-- The power record keeps its state: at most the sleep countdown moves or a wake is noted in ENTERING. -/
structure PowerStays (p q : Power) : Prop where
  state : q.state = p.state
  attempt : q.attempt = p.attempt
  wakeTimer : q.wakeTimer = p.wakeTimer
  noted : q.notedWake = true → p.notedWake = true ∨ p.state = .entering
  owed : q.cycleOwed = p.cycleOwed
  staged : q.staged = p.staged
  current : q.current = p.current
  window : q.windowCountdown = p.windowCountdown

/-- A wake cause has started a wake in ASLEEP (R145). -/
structure PowerWakes (p q : Power) : Prop where
  asleep : p.state = .asleep
  waking : q.state = .waking
  attempt : q.attempt = 1
  wakeTimer : q.wakeTimer.isSome = true
  noted : q.notedWake = true → p.notedWake = true ∨ p.state = .entering
  owed : q.cycleOwed = p.cycleOwed
  staged : q.staged = p.staged
  current : q.current = p.current
  window : q.windowCountdown = p.windowCountdown

/-- What a wake cause or the idle test can do to the power record. -/
def PowerMoves (p q : Power) : Prop := PowerStays p q ∨ PowerWakes p q

theorem PowerStays.refl (p : Power) : PowerStays p p := ⟨rfl, rfl, rfl, .inl, rfl, rfl, rfl, rfl⟩

theorem PowerMoves.refl (p : Power) : PowerMoves p p := .inl (.refl p)

theorem PowerMoves.trans {p q r : Power} (h : PowerMoves p q) (k : PowerMoves q r) : PowerMoves p r := by
  rcases h with h | h <;> rcases k with k | k
  · exact .inl ⟨k.state.trans h.state, k.attempt.trans h.attempt, k.wakeTimer.trans h.wakeTimer,
      fun n => (k.noted n).elim h.noted fun e => .inr (h.state ▸ e), k.owed.trans h.owed, k.staged.trans h.staged,
      k.current.trans h.current, k.window.trans h.window⟩
  · exact .inr ⟨h.state ▸ k.asleep, k.waking, k.attempt, k.wakeTimer,
      fun n => (k.noted n).elim h.noted fun e => .inr (h.state ▸ e), k.owed.trans h.owed, k.staged.trans h.staged,
      k.current.trans h.current, k.window.trans h.window⟩
  · exact .inr ⟨h.asleep, k.state.trans h.waking, k.attempt.trans h.attempt, k.wakeTimer ▸ h.wakeTimer,
      fun n => (k.noted n).elim h.noted fun e => (by have := h.waking; simp_all), k.owed.trans h.owed,
      k.staged.trans h.staged, k.current.trans h.current, k.window.trans h.window⟩
  · exact absurd (h.waking.symm.trans k.asleep) (by decide)

/-- The head status stays, or a wait has ended (R60). -/
def HeadMoves (a b : HeadStatus) : Prop := b = a ∨ ((∃ c, a = .waiting c) ∧ b = .undecided)

theorem HeadMoves.trans {a b c : HeadStatus} (h : HeadMoves a b) (k : HeadMoves b c) : HeadMoves a c := by
  rcases h with rfl | ⟨⟨w, rfl⟩, rfl⟩
  · exact k
  · rcases k with rfl | ⟨⟨v, hv⟩, rfl⟩
    · exact .inr ⟨⟨w, rfl⟩, rfl⟩
    · cases hv

/-- The line requests among what has been sent downstream. -/
def lineRequests (s : State) : List DownMessage := s.downstreamOut.filter isLineRequest

/-- What the internal work of a command can do: it leaves the store, the tags, the lists of reads and retries, the fault
list, the configuration and the pins alone, and moves power, heads, drains, group records and events as said. -/
structure Internal (s t : State) : Prop where
  pending : t.pending = s.pending
  resetPin : t.resetPin = s.resetPin
  regions : t.regions = s.regions
  entries : t.entries = s.entries
  ageList : t.ageList = s.ageList
  seqCounter : t.seqCounter = s.seqCounter
  counts : t.counts = s.counts
  reads : t.reads = s.reads
  timestamp : t.timestamp = s.timestamp
  divider : t.divider = s.divider
  slots : t.slots = s.slots
  passRetries : t.passRetries = s.passRetries
  releaseRetries : t.releaseRetries = s.releaseRetries
  respLimitSeen : t.respLimitSeen = s.respLimitSeen
  opp : t.opp = s.opp
  faults : t.faults = s.faults
  faultOrder : t.faultOrder = s.faultOrder
  counters : t.counters = s.counters
  resetRecord : t.resetRecord = s.resetRecord
  regs : t.regs = s.regs
  chipSelectLow : t.chipSelectLow = s.chipSelectLow
  serialIn : t.serialIn = s.serialIn
  frame : t.frame = s.frame
  power : PowerMoves s.power t.power
  queue : ∀ i : InitIx, t.initiators[i].queue = s.initiators[i].queue
  credits : ∀ i : InitIx, t.initiators[i].credits = s.initiators[i].credits
  head : ∀ i : InitIx, HeadMoves s.initiators[i].head t.initiators[i].head
  drains : t.drains.Sublist s.drains
  lineLimit : ∀ g : GroupIx, t.groups[g].lineLimit = s.groups[g].lineLimit
  events : ∃ v : BitVec 16, v &&& ~~~0x1F6D = 0 ∧ t.events = s.events ||| v
  sent : lineRequests t = lineRequests s

namespace Internal

theorem refl (s : State) : Internal s s := by
  constructor <;> first | rfl | exact .refl _ | (intros; first | rfl | exact .inl rfl) | exact ⟨0, by simp⟩

theorem trans {s t u : State} (h : Internal s t) (k : Internal t u) : Internal s u where
  pending := k.pending.trans h.pending
  resetPin := k.resetPin.trans h.resetPin
  regions := k.regions.trans h.regions
  entries := k.entries.trans h.entries
  ageList := k.ageList.trans h.ageList
  seqCounter := k.seqCounter.trans h.seqCounter
  counts := k.counts.trans h.counts
  reads := k.reads.trans h.reads
  timestamp := k.timestamp.trans h.timestamp
  divider := k.divider.trans h.divider
  slots := k.slots.trans h.slots
  passRetries := k.passRetries.trans h.passRetries
  releaseRetries := k.releaseRetries.trans h.releaseRetries
  respLimitSeen := k.respLimitSeen.trans h.respLimitSeen
  opp := k.opp.trans h.opp
  faults := k.faults.trans h.faults
  faultOrder := k.faultOrder.trans h.faultOrder
  counters := k.counters.trans h.counters
  resetRecord := k.resetRecord.trans h.resetRecord
  regs := k.regs.trans h.regs
  chipSelectLow := k.chipSelectLow.trans h.chipSelectLow
  serialIn := k.serialIn.trans h.serialIn
  frame := k.frame.trans h.frame
  power := h.power.trans k.power
  queue i := (k.queue i).trans (h.queue i)
  credits i := (k.credits i).trans (h.credits i)
  head i := (h.head i).trans (k.head i)
  drains := k.drains.trans h.drains
  lineLimit g := (k.lineLimit g).trans (h.lineLimit g)
  events := by
    obtain ⟨v, hv, hs⟩ := h.events
    obtain ⟨w, hw, ht⟩ := k.events
    refine ⟨v ||| w, ?_, by rw [ht, hs, BitVec.or_assoc]⟩
    revert hv hw
    generalize (~~~0x1F6D : BitVec 16) = m
    intro hv hw
    rw [BitVec.and_comm, BitVec.and_or_distrib_left, BitVec.and_comm m v, BitVec.and_comm m w, hv, hw]
    rfl
  sent := k.sent.trans h.sent

theorem foldl {α : Type} {f : State → α → State} (h : ∀ s a, Internal s (f s a)) (l : List α) (s : State) :
    Internal s (l.foldl f s) := by
  induction l generalizing s with
  | nil => exact .refl s
  | cons a l ih => exact (h s a).trans (ih (f s a))

end Internal
end Sys2Proof.Machine
end

