-- ==== Sys2Proof/Laws/Operations.lean ====
section
/-! SUPPORT. Laws/Operations.lean: every shared operation of Machine/Ops.lean and Machine/GroupUnit.lean that is internal
work stays within Internal. One lemma per operation. -/

namespace Sys2Proof.Machine

/-! ## The small updates -/

theorem HeadMoves.refl (a : HeadStatus) : HeadMoves a a := .inl rfl

theorem setPower_internal {p : Power} {s : State} (h : PowerMoves s.power p) : Internal s (setPower p s) :=
  { Internal.refl s with power := h }

theorem setPressure_internal (b : Bool) (s : State) : Internal s { s with pressure := b } :=
  { Internal.refl s with }

theorem setInitiator_internal {i : InitIx} {x : Initiator} {s : State} (hq : x.queue = s.initiators[i].queue)
    (hc : x.credits = s.initiators[i].credits) (hh : HeadMoves s.initiators[i].head x.head) :
    Internal s (setInitiator i x s) := by
  have key : ∀ j : InitIx, (setInitiator i x s).initiators[j].queue = s.initiators[j].queue ∧
      (setInitiator i x s).initiators[j].credits = s.initiators[j].credits ∧
      HeadMoves s.initiators[j].head (setInitiator i x s).initiators[j].head := by
    intro j
    by_cases h : i = j
    · subst h
      exact ⟨by simpa using hq, by simpa using hc, by simpa using hh⟩
    · have : i.val ≠ j.val := fun e => h (Fin.ext e)
      simp [this, HeadMoves.refl]
  exact { Internal.refl s with
    queue := fun j => (key j).1, credits := fun j => (key j).2.1, head := fun j => (key j).2.2 }

theorem mapInitiators_internal {f : Initiator → Initiator} {s : State}
    (h : ∀ q, (f q).queue = q.queue ∧ (f q).credits = q.credits ∧ HeadMoves q.head (f q).head) :
    Internal s { s with initiators := s.initiators.map f } :=
  { Internal.refl s with
    queue := fun i => by simpa using (h s.initiators[i]).1
    credits := fun i => by simpa using (h s.initiators[i]).2.1
    head := fun i => by simpa using (h s.initiators[i]).2.2 }

theorem setGroup_internal {g : GroupIx} {x : Group} {s : State} (h : x.lineLimit = s.groups[g].lineLimit) :
    Internal s (setGroup g x s) := by
  refine { Internal.refl s with lineLimit := fun j => ?_ }
  by_cases e : g = j
  · subst e; simp [h]
  · have : g.val ≠ j.val := fun k => e (Fin.ext k)
    simp [this]

theorem setDrains_internal {l : List Drain} {s : State} (h : l.Sublist s.drains) : Internal s { s with drains := l } :=
  { Internal.refl s with drains := h }

theorem sendUp_internal (m : UpMessage) (s : State) : Internal s (sendUp m s) :=
  { Internal.refl s with }

theorem sendDown_internal {m : DownMessage} (h : isLineRequest m = false) (s : State) : Internal s (sendDown m s) :=
  { Internal.refl s with sent := by simp [lineRequests, List.filter_append, h] }

theorem eventValue_isEvent (c : EventCause) : eventValue c &&& ~~~0x1F6D = 0 := by
  cases c with
  | groupClosed g => revert g; decide
  | _ => decide

theorem raise_internal (c : EventCause) (s : State) : Internal s (raise c s) :=
  { Internal.refl s with events := ⟨eventValue c, eventValue_isEvent c, rfl⟩ }

/-! ## Answers and heads -/

theorem dropTag_internal (i : InitIx) (t : UpTag) (s : State) : Internal s (dropTag i t s) :=
  setInitiator_internal rfl rfl (.refl _)

theorem respond_internal (i : InitIx) (t : UpTag) (r : Response) (s : State) : Internal s (respond i t r s) :=
  (dropTag_internal i t s).trans (sendUp_internal _ _)

theorem respondAll_internal (ws : List Waiter) (r : Response) (s : State) : Internal s (respondAll ws r s) := by
  unfold respondAll
  exact .foldl (fun s w => respond_internal w.initiator w.tag r s) ws s

theorem endStalls_internal (s : State) : Internal s (endStalls s) := by
  refine mapInitiators_internal fun q => ?_
  unfold endStall headStalls
  split
  · next h => exact ⟨rfl, rfl, .inr ⟨⟨.stall, by simpa using h⟩, rfl⟩⟩
  · exact ⟨rfl, rfl, .refl _⟩

theorem endWaits_internal (s : State) : Internal s (endWaits s) := by
  refine mapInitiators_internal fun q => ?_
  unfold endWait
  split
  · next c r rest hh _ =>
    split
    · exact ⟨rfl, rfl, .inr ⟨⟨c, hh⟩, rfl⟩⟩
    · exact ⟨rfl, rfl, .refl _⟩
  · exact ⟨rfl, rfl, .refl _⟩

/-! ## Wake causes and the tests -/

theorem takeWake_internal (s : State) : Internal s (takeWake s) := by
  unfold takeWake
  split
  · next h => exact setPower_internal (.inl ⟨rfl, rfl, rfl, fun _ => .inr h, rfl, rfl, rfl, rfl⟩)
  · next h =>
    exact (setPower_internal (p := { s.power with
        state := .waking, attempt := 1, wakeTimer := some s.regs.wakeLimit.toNat })
      (.inr ⟨h, rfl, rfl, rfl, .inl, rfl, rfl, rfl, rfl⟩)).trans (sendDown_internal rfl _)
  all_goals exact .refl s

theorem deferralTest_internal (s : State) : Internal s (deferralTest s) := by
  unfold deferralTest
  split
  · exact takeWake_internal s
  · exact .refl s

theorem idleTest_internal (s : State) : Internal s (idleTest s) :=
  setPower_internal (.inl ⟨rfl, rfl, rfl, .inl, rfl, rfl, rfl, rfl⟩)

theorem pressureTest_internal (s : State) : Internal s (pressureTest s) := by
  unfold pressureTest
  split
  · dsimp only
    split
    · exact setPressure_internal true s
    · exact (setPressure_internal true s).trans (takeWake_internal _)
  · split
    · exact setPressure_internal false s
    · exact .refl s

theorem settle_internal (s : State) : Internal s (settle s) :=
  ((pressureTest_internal s).trans (endWaits_internal _)).trans (idleTest_internal _)

/-! ## The group unit -/

theorem setEpisode_internal (ep : Episode) (s : State) (g : GroupIx) : Internal s (setEpisode ep s g) :=
  setGroup_internal rfl

theorem setPendingRelease_internal (v : Bool) (s : State) (g : GroupIx) : Internal s (setPendingRelease v s g) :=
  setGroup_internal rfl

theorem answerDrain_internal (s : State) (d : Drain) : Internal s (answerDrain s d) := respond_internal _ _ _ s

theorem testDrains_internal (g : GroupIx) (s : State) : Internal s (testDrains g s) :=
  (setDrains_internal List.filter_sublist).trans (.foldl answerDrain_internal _ _)

theorem raiseClosed_internal (g : GroupIx) (b : GroupState) (s : State) : Internal s (raiseClosed g b s) := by
  unfold raiseClosed
  split
  · exact raise_internal _ s
  · exact .refl s

theorem endedGroup_lineLimit (s : State) (x : Group) (n : Nat) : (endedGroup s x n).lineLimit = x.lineLimit := by
  unfold endedGroup
  dsimp only
  split <;> rfl

theorem endEpisode_internal (g : GroupIx) (s : State) : Internal s (endEpisode g s) :=
  ((setGroup_internal (endedGroup_lineLimit s _ _)).trans (raiseClosed_internal g _ _)).trans (testDrains_internal g _)

theorem testEpisode_internal (g : GroupIx) (s : State) : Internal s (testEpisode g s) := by
  unfold testEpisode
  split
  · exact .refl s
  · split
    · exact .refl s
    · exact endEpisode_internal g s

theorem testEpisodes_internal (gs : List GroupIx) (s : State) : Internal s (testEpisodes gs s) :=
  .foldl (fun s g => testEpisode_internal g s) gs s

theorem requestWake_internal (gs : List GroupIx) (s : State) : Internal s (requestWake gs s) := by
  unfold requestWake
  dsimp only
  split
  · exact .refl s
  split
  · exact .foldl (setPendingRelease_internal true) _ s
  split
  · exact .foldl (setPendingRelease_internal true) _ s
  split
  · exact .foldl (setPendingRelease_internal false) _ s
  · exact takeWake_internal s

theorem releaseRequest_internal (g : GroupIx) (s : State) : Internal s (releaseRequest g s) := by
  unfold releaseRequest
  split
  · exact .refl s
  · dsimp only
    split
    · exact ((Internal.foldl (setEpisode_internal _) _ s).trans (requestWake_internal _ _)).trans
        (testEpisodes_internal _ _)
    · exact .refl s

theorem drainWake_internal (gs : List GroupIx) (s : State) : Internal s (drainWake gs s) := by
  unfold drainWake
  dsimp only
  split
  · exact .refl s
  split
  · exact .foldl (setPendingRelease_internal true) _ s
  · exact takeWake_internal s

theorem drainRequests_internal (groups : BitVec 4) (s : State) : Internal s (drainRequests groups s) := by
  unfold drainRequests
  split
  · exact .refl s
  · exact ((Internal.foldl (setEpisode_internal _) _ s).trans (drainWake_internal _ _)).trans
      (testEpisodes_internal _ _)

theorem startAgeTimer_internal (g : GroupIx) (s : State) : Internal s (startAgeTimer g s) := setGroup_internal rfl

theorem heldRose_internal (g : GroupIx) (s : State) : Internal s (heldRose g s) := by
  unfold heldRose
  split
  · have h1 : Internal s (if s.counts.groupHeld[g] = 1 then startAgeTimer g s else s) := by
      split
      · exact startAgeTimer_internal g s
      · exact .refl s
    generalize (if s.counts.groupHeld[g] = 1 then startAgeTimer g s else s) = t at h1
    dsimp only
    split
    · exact h1.trans (releaseRequest_internal g t)
    · exact h1
  · exact .refl s

theorem writeReport_internal (g : GroupIx) (s : State) : Internal s (writeReport g s) := by
  unfold writeReport
  dsimp only
  split
  · have h1 : Internal s (setGroup g { s.groups[g] with
        quietTimer := some s.timestamp, writeCount := countWrite s.groups[g].writeCount } s) := setGroup_internal rfl
    split
    · exact h1.trans (releaseRequest_internal g _)
    · exact h1
  · exact .refl s

theorem clearPendingReleases_internal (s : State) : Internal s (clearPendingReleases s) := by
  unfold clearPendingReleases
  split
  · exact .refl s
  · exact { Internal.refl s with lineLimit := fun g => by simp }

theorem payPendingRelease_internal (s : State) (g : GroupIx) : Internal s (payPendingRelease s g) := by
  unfold payPendingRelease
  split
  · exact .refl s
  split
  · exact .refl s
  split
  · exact setPendingRelease_internal false s g
  · exact (takeWake_internal s).trans (setPendingRelease_internal false _ g)

theorem liftHalt_internal (s : State) : Internal s (liftHalt s) := by
  have h := Internal.foldl payPendingRelease_internal (List.finRange Config.numGroups) s
  unfold liftHalt
  dsimp only
  split
  · exact h.trans (takeWake_internal _)
  · exact h

theorem groupReport_internal (g : GroupIx) (s : State) : Internal s (groupReport g s) :=
  (testEpisode_internal g s).trans (testDrains_internal g _)

theorem expiryRequest_internal (g : GroupIx) (s : State) : Internal s (expiryRequest g s) := by
  unfold expiryRequest
  split
  · exact releaseRequest_internal g s
  · exact .refl s

theorem namedRequest_internal (s : State) (g : GroupIx) : Internal s (namedRequest s g) := by
  unfold namedRequest
  split
  · exact releaseRequest_internal g s
  · exact .refl s

theorem releaseGroups_internal (groups : BitVec 4) (s : State) : Internal s (releaseGroups groups s) :=
  (Internal.foldl namedRequest_internal _ s).trans (settle_internal _)

theorem reportReentry_internal (g : GroupIx) (s : State) : Internal s (reportReentry g s) := by
  unfold reportReentry
  split
  · exact releaseRequest_internal g s
  · exact heldRose_internal g s

theorem expediteWake_internal (b : Bool) (s : State) : Internal s (expediteWake b s) := by
  unfold expediteWake
  split
  · exact .refl s
  · exact takeWake_internal s

theorem readWake_internal (s : State) : Internal s (readWake s) := by
  unfold readWake
  split
  · exact takeWake_internal s
  · exact .refl s

theorem boundaryWake_internal (s : State) : Internal s (boundaryWake s) := by
  unfold boundaryWake
  split
  · exact takeWake_internal s
  · exact .refl s

end Sys2Proof.Machine
end

