-- ==== Sys2Proof/Laws/Moves.lean ====
section
/-! SUPPORT. Laws/Moves.lean: what a command can do, said once. A command other than a pin reset is a sequence of moves,
each with the conditions under which it is made, with at most one transition of a hold store entry and at most one of
the power state's own transitions among them. A statement about every command is then proved move by move. -/

namespace Sys2Proof.Machine

/-- What a move of the power state may do to the power record (R136, R141, R143, R147 to R149, R151 to R153). -/
inductive PowerChange (s : State) : Power → Prop
  | sleep (owed : Bool) (h : s.power.state = .awake) (hi : idleCondition s = true) :
      PowerChange s
        { s.power with state := .entering, sleepCountdown := none, notedWake := false, cycleOwed := owed }
  | decline (h : s.power.state = .entering) :
      PowerChange s { s.power with state := .awake, notedWake := false, cycleOwed := false }
  | ready (h : s.power.state = .waking) :
      PowerChange s { s.power with state := .awake, attempt := 0, wakeTimer := none }
  | lost (h : s.power.state = .waking) (ha : ¬s.power.attempt < 3) :
      PowerChange s { s.power with state := .unavailable, wakeTimer := none }
  | retry (h : s.power.state = .waking) (ha : s.power.attempt < 3) :
      PowerChange s
        { s.power with state := .waking, attempt := s.power.attempt + 1, wakeTimer := some s.regs.wakeLimit.toNat }
  | recover (h : s.power.state = .unavailable) :
      PowerChange s { s.power with state := .waking, attempt := 1, wakeTimer := some s.regs.wakeLimit.toNat }

/-- A move that keeps the power state changes at most the countdowns and the window periods. -/
structure PowerTimes (p q : Power) : Prop where
  state : q.state = p.state
  attempt : q.attempt = p.attempt
  wakeTimer : q.wakeTimer.isSome = p.wakeTimer.isSome
  noted : q.notedWake = p.notedWake
  owed : q.cycleOwed = p.cycleOwed
  window : (q.windowCountdown.isSome = true ↔ q.current ≠ 0) ∨
    (q.windowCountdown.isSome = p.windowCountdown.isSome ∧ q.current = p.current)

/-- What a move is counted as. -/
inductive MoveKind where
  | plain | store | power
  deriving DecidableEq, Repr

/-- 1 for a transition of an entry. -/
def MoveKind.stores : MoveKind → Nat
  | .store => 1
  | .plain | .power => 0

/-- 1 for a transition of the power state. -/
def MoveKind.powers : MoveKind → Nat
  | .power => 1
  | .plain | .store => 0

/-- What a command may do at the downstream port: nothing that occupies a slot or ends an attempt, end the attempt of a
slot, or issue a line request (R115, R125, R128, R195). -/
inductive Port where
  | idle | ends | grants
  deriving DecidableEq, Repr

/-- One move of a command that may do this much at the downstream port. -/
inductive Move (port : Port) : MoveKind → State → State → Prop
  | internal {s t : State} (h : Internal s t) : Move port .plain s t
  | pop (i : InitIx) (s : State) (h : s.initiators[i].queue ≠ []) : Move port .plain s (popHead i s)
  | setHead (i : InitIx) (x : HeadStatus) (s : State) (h : s.initiators[i].queue ≠ []) :
      Move port .plain s (setHead i x s)
  | enqueue (i : InitIx) (r : Request) (s : State) (h : s.initiators[i].queue.length < 4)
      (ht : tagOutstanding s.initiators[i] r.tag = false) : Move port .plain s (enqueue i r s)
  | allocate (e : EntryIx) (l : LineAddr) (g : GroupIx) (m : Mask) (b : Line) (ws : List Waiter) (s : State)
      (he : s.entries[e].state = .free) (hl : lookup s l = none) (hc : s.seqCounter ≠ topSeq) (hm : m ≠ 0)
      (hw : ws.length ≤ 1) (hg : s.groups[g].state = .holding) : Move port .store s (allocate e l g m b ws s)
  | merge (e : EntryIx) (m : Mask) (b : Line) (ws : List Waiter) (s : State) (he : s.entries[e].state = .held)
      (hw : ws = [] ∨ s.entries[e].waiters.length + ws.length ≤ 3) : Move port .plain s (merge e m b ws s)
  | reads (l : List PendingRead) (s : State) (h : l.length ≤ s.reads.length ∨ l.length ≤ 12) :
      Move port .plain s { s with reads := l }
  | addDrain (d : Drain) (s : State) (h : s.drains.length < 4) :
      Move port .plain s { s with drains := s.drains ++ [d] }
  | occupy (k : TagIx) (op : SlotOp) (n : Nat) (s : State) (h : s.power.state = .awake) (hp : port = .grants) :
      Move port .plain s (occupy k op n s)
  | sendLine (m : DownMessage) (s : State) (h : port = .grants) : Move port .plain s (sendDown m s)
  | freeSlot (k : TagIx) (s : State) (hp : port = .ends) : Move port .plain s (setSlot k .free s)
  | quarantine (k : TagIx) (c : SlotKind) (t : Timestamp) (n : Nat) (s : State) (h : s.slots[k].isBusy = true)
      (hp : port = .ends) : Move port .plain s (setSlot k (.quarantined c t n) s)
  | startRelease (e : EntryIx) (s : State) (he : s.entries[e].state = .held) (hp : s.power.state = .awake)
      (hg : port = .grants) : Move port .store s (startRelease e s)
  | releaseToFree (e : EntryIx) (s : State) (he : s.entries[e].state = .releasing) (hp : port = .ends) :
      Move port .store s (releaseToFree e s)
  | releaseToFaulted (e : EntryIx) (k : FaultIx) (c : FailCause) (s : State) (he : s.entries[e].state = .releasing)
      (hk : s.faults[k] = none) (hp : port = .ends) : Move port .store s (releaseToFaulted e k c s)
  | releaseToHeld (e : EntryIx) (s : State) (he : s.entries[e].state = .releasing) (hp : port = .ends) :
      Move port .store s (releaseToHeld e s)
  | noteFailure (e : EntryIx) (n : Nat) (c : Option FailCause) (s : State) (he : s.entries[e].state = .releasing)
      (hp : port = .ends) : Move port .plain s (setEntry e { s.entries[e] with attempts := n, lastCause := c } s)
  | retry (e : EntryIx) (s : State) (he : s.entries[e].state = .faulted) (hg : active s s.entries[e].group = true)
      (hc : s.seqCounter ≠ topSeq) : Move port .store s (reenter e (removeRecordOf e s))
  | discard (e : EntryIx) (s : State) (he : s.entries[e].state = .faulted) :
      Move port .store s (discard e (removeRecordOf e s))
  | refuseWaiters (e : EntryIx) (s : State) : Move port .plain s (refuseWaiters s e)
  | retries (p : List PassRetry) (r : List EntryIx) (s : State) (h : port ≠ .idle) :
      Move port .plain s { s with passRetries := p, releaseRetries := r }
  | notes (c : Counters) (v : BitVec 16) (n : Timestamp) (d : BitVec 8) (l : BitVec 16) (o b : Bool)
      (rr : ResetRecord) (f : Option Frame) (s : State) (hv : v &&& ~~~s.events = 0) :
      Move port .plain s
        { s with
          counters := c, events := v, timestamp := n, divider := d, respLimitSeen := l, opp := o,
          chipSelectLow := b, resetRecord := rr, frame := f }
  | restartNumbers (s : State) (h : ∀ e : EntryIx, s.entries[e].state = .free) :
      Move port .plain s { s with seqCounter := 0, pressure := false }
  | freeQuarantined (s : State) : Move port .plain s (freeQuarantined s)
  | asleep (s : State) (h : s.power.state = .entering) :
      Move port .power s
        (freeQuarantined (setPower { s.power with state := .asleep, notedWake := false, cycleOwed := false } s))
  | power (p : Power) (s : State) (h : PowerChange s p) : Move port .power s (setPower p s)
  | region (x : Vector Region Config.numRegions) (s : State)
      (h : RegistersSound s → RegistersSound { s with regions := x }) : Move port .plain s { s with regions := x }
  | powerTimes (p : Power) (s : State) (h : PowerTimes s.power p) : Move port .plain s (setPower p s)
  | register (r : Regs) (s : State) (h : RegistersSound s → RegistersSound (setRegs r s)) :
      Move port .plain s (setRegs r s)
  | group (g : GroupIx) (x : Group) (s : State)
      (h : x.lineLimit.toNat ≤ 48 ∨ x.lineLimit = s.groups[g].lineLimit) : Move port .plain s (setGroup g x s)

/-- A sequence of moves with at most n transitions of an entry and at most p transitions of the power state. -/
inductive Moves (port : Port) : Nat → Nat → State → State → Prop
  | done (n p : Nat) (s : State) : Moves port n p s s
  | more {n p n' p' : Nat} {k : MoveKind} {s t u : State} (h : Moves port n p s t) (m : Move port k t u)
      (hn : n + k.stores ≤ n') (hp : p + k.powers ≤ p') : Moves port n' p' s u

namespace Moves

variable {port : Port} {n p m q : Nat} {s t u : State}

theorem plain (h : Moves port n p s t) (m : Move port .plain t u) : Moves port n p s u :=
  .more h m (Nat.le_refl _) (Nat.le_refl _)

theorem store (h : Moves port n p s t) (m : Move port .store t u) : Moves port (n + 1) p s u :=
  .more h m (Nat.le_refl _) (Nat.le_refl _)

theorem power (h : Moves port n p s t) (m : Move port .power t u) : Moves port n (p + 1) s u :=
  .more h m (Nat.le_refl _) (Nat.le_refl _)

theorem andThen (h : Moves port n p s t) (k : Internal t u) : Moves port n p s u := h.plain (.internal k)

theorem internal (h : Internal s t) : Moves port n p s t := (Moves.done n p s).andThen h

theorem weaken (h : Moves port n p s t) (hn : n ≤ m) (hp : p ≤ q) : Moves port m q s t := by
  cases h with
  | done => exact .done m q s
  | more h k hn' hp' => exact .more h k (hn'.trans hn) (hp'.trans hp)

theorem trans (h : Moves port n p s t) (k : Moves port m q t u) : Moves port (n + m) (p + q) s u := by
  induction k with
  | done => exact h.weaken (Nat.le_add_right ..) (Nat.le_add_right ..)
  | more _ x hn hp ih => exact .more (ih h) x (by omega) (by omega)

/-- Moves without a transition that follow other moves. -/
theorem seq (h : Moves port n p s t) (k : Moves port 0 0 t u) : Moves port n p s u := h.trans k

/-- Moves without a transition that come before other moves. -/
theorem pre (h : Moves port 0 0 s t) (k : Moves port n p t u) : Moves port n p s u :=
  (h.trans k).weaken (by omega) (by omega)

/-- A plain move, then other moves. -/
theorem first (m : Move port .plain s t) (k : Moves port n p t u) : Moves port n p s u :=
  ((Moves.done 0 0 s).plain m).pre k

theorem foldl {α : Type} {f : State → α → State} (h : ∀ s a, Moves port 0 0 s (f s a)) (l : List α) (s : State) :
    Moves port 0 0 s (l.foldl f s) := by
  induction l generalizing s with
  | nil => exact .done 0 0 s
  | cons a l ih => exact (h s a).trans (ih (f s a))

/-- An invariant that every move keeps is kept by every sequence of moves. -/
theorem keep {P : State → Prop} (h : ∀ k s t, Move port k s t → P s → P t) (k : Moves port n p s t) (hs : P s) :
    P t := by
  induction k with
  | done => exact hs
  | more _ m _ _ ih => exact h _ _ _ m (ih hs)

end Moves
end Sys2Proof.Machine
end

