-- ==== Sys2Proof/Laws/Commands.lean ====
section
/-! SUPPORT. Laws/Commands.lean: every command but the pin resets is a sequence of moves (Laws/Moves.lean), family by
family and then for exec as a whole. -/

namespace Sys2Proof.Machine

variable {b : Port} {n p : Nat} {s t : State}

/-! ## The small updates as moves -/

theorem andNot_self (v : BitVec 16) : v &&& ~~~v = 0 := by simp

theorem notes_moves (c : Counters) (v : BitVec 16) (k : Timestamp) (d : BitVec 8) (l : BitVec 16) (o x : Bool)
    (rr : ResetRecord) (f : Option Frame) (s : State) (hv : v &&& ~~~s.events = 0) :
    Moves b n p s
      { s with
        counters := c, events := v, timestamp := k, divider := d, respLimitSeen := l, opp := o,
        chipSelectLow := x, resetRecord := rr, frame := f } :=
  (Moves.done n p s).plain (.notes c v k d l o x rr f s hv)

theorem setFrame_moves (f : Option Frame) (s : State) : Moves b n p s (setFrame f s) :=
  notes_moves s.counters s.events s.timestamp s.divider s.respLimitSeen s.opp s.chipSelectLow s.resetRecord f s
    (andNot_self _)

theorem setCounters_moves (c : Counters) (s : State) : Moves b n p s { s with counters := c } :=
  notes_moves c s.events s.timestamp s.divider s.respLimitSeen s.opp s.chipSelectLow s.resetRecord s.frame s
    (andNot_self _)

theorem setEvents_moves (v : BitVec 16) (s : State) (hv : v &&& ~~~s.events = 0) :
    Moves b n p s { s with events := v } :=
  notes_moves s.counters v s.timestamp s.divider s.respLimitSeen s.opp s.chipSelectLow s.resetRecord s.frame s hv

theorem setOpp_moves (o : Bool) (s : State) : Moves b n p s { s with opp := o } :=
  notes_moves s.counters s.events s.timestamp s.divider s.respLimitSeen o s.chipSelectLow s.resetRecord s.frame s
    (andNot_self _)

theorem reads_moves (l : List PendingRead) (s : State) (h : l.length ≤ s.reads.length) :
    Moves b n p s { s with reads := l } := (Moves.done n p s).plain (.reads l s (.inl h))

theorem answerHead_moves (i : InitIx) (u : UpTag) (r : Response) (s : State) (h : s.initiators[i].queue ≠ []) :
    Moves b n p s (answerHead i u r s) :=
  (Moves.internal (respond_internal i u r s)).plain
    (.pop i _ (by rw [(respond_internal i u r s).queue i]; exact h))

theorem raise_moves (c : EventCause) (s : State) : Moves b n p s (raise c s) := .internal (raise_internal c s)

/-! ## Arrival and decisions -/

theorem upstreamArrival_moves (r : Request) (s : State) : Moves b n p s (upstreamArrival r s) := by
  unfold upstreamArrival
  split
  · unfold arrive
    dsimp only
    split
    · exact raise_moves _ s
    split
    · exact .internal ((sendUp_internal _ s).trans (raise_internal _ _))
    · next h1 h2 => exact (Moves.done n p s).plain (.enqueue _ _ s (by simpa using h1) (by simpa using h2))
  · exact .internal ((sendUp_internal _ s).trans (raise_internal _ _))

section decisions
variable {i : InitIx} {r : Request}

theorem refuse_moves (c : ErrorCause) (h : s.initiators[i].queue ≠ []) : Moves b n p s (refuse c i r s) :=
  answerHead_moves i r.tag _ s h

theorem refuseMalformed_moves (h : s.initiators[i].queue ≠ []) : Moves b n p s (refuseMalformed i r s) :=
  (answerHead_moves i r.tag _ s h).andThen (raise_internal _ _)

theorem wait_moves (c : WaitCause) (h : s.initiators[i].queue ≠ []) : Moves b n p s (wait c i s) :=
  (Moves.done n p s).plain (.setHead i _ s h)

theorem becomePass_moves (h : s.initiators[i].queue ≠ []) : Moves b n p s (becomePass i s) :=
  ((Moves.done n p s).plain (.setHead i _ s h)).andThen (takeWake_internal _)

theorem decideByFullPolicy_moves (h : s.initiators[i].queue ≠ []) : Moves b n p s (decideByFullPolicy i s) := by
  unfold decideByFullPolicy
  split
  · exact wait_moves .stall h
  · exact (setCounters_moves _ s).pre (becomePass_moves h)

theorem mergeWrite_moves {e : EntryIx} {d : Bool} (h : s.initiators[i].queue ≠ []) (he : s.entries[e].state = .held)
    (hw : d = true → s.entries[e].waiters.length < 3) : Moves b n p s (mergeWrite e i r d s) := by
  unfold mergeWrite
  dsimp only
  split
  · next hd =>
    refine ((Moves.first (.merge e _ _ _ s he (.inr ?_)) (.first (.pop i _ ?_) (.done n p _))).andThen
      (expediteWake_internal _ _)).andThen (writeReport_internal _ _)
    · exact hw hd
    · exact h
  · refine (Moves.first (.merge e _ _ _ s he (.inl rfl)) (answerHead_moves i _ _ _ ?_)).andThen
      (writeReport_internal _ _)
    exact h

theorem lowestFreeEntry_free {e : EntryIx} (h : lowestFreeEntry s = some e) : s.entries[e].state = .free := by
  simpa using List.find?_some h

theorem positions_ne_zero {a : Addr} {k : Nat} (h0 : 0 < k) (h1 : offsetOf a + k ≤ 64) : positions a k ≠ 0 := by
  intro h
  have hk := congrArg BitVec.toNat h
  have hp : 2 ^ (offsetOf a + k) ≤ 2 ^ 64 := Nat.pow_le_pow_right (by decide) h1
  have h2 : 1 < 2 ^ k := Nat.one_lt_two_pow (by omega)
  have h3 : 0 < 2 ^ offsetOf a := Nat.two_pow_pos _
  have hlt : (2 ^ k - 1) * 2 ^ offsetOf a < 2 ^ 64 := by
    calc (2 ^ k - 1) * 2 ^ offsetOf a < 2 ^ k * 2 ^ offsetOf a := Nat.mul_lt_mul_of_pos_right (by omega) h3
      _ = 2 ^ (offsetOf a + k) := by rw [← Nat.pow_add, Nat.add_comm]
      _ ≤ 2 ^ 64 := hp
  have : 0 < (2 ^ k - 1) * 2 ^ offsetOf a := Nat.mul_pos (by omega) h3
  simp only [positions, BitVec.toNat_ofNat, Nat.mod_eq_of_lt hlt, show (0 : Mask).toNat = 0 from rfl] at hk
  omega

/-- R193: a WRITE that is not malformed covers at least one position. -/
theorem requestMask_ne_zero {r : Request} (hk : isWrite r = true) (h : malformed r = false) : requestMask r ≠ 0 := by
  have hr : isRead r = false := by simp_all [isRead, isWrite]
  have hb : badExtent r = false := by simp_all [malformed]
  simp only [badExtent, Bool.or_eq_false_iff, beq_eq_false_iff_ne, decide_eq_false_iff_not] at hb
  exact positions_ne_zero (by omega) (by omega)

theorem allocateWrite_moves {e : EntryIx} {g : GroupIx} {d : Bool} (h : s.initiators[i].queue ≠ [])
    (he : s.entries[e].state = .free) (hl : lookup s (requestLine r) = none) (hc : s.seqCounter ≠ topSeq)
    (hm : requestMask r ≠ 0) (hg : s.groups[g].state = .holding) : Moves b 1 p s (allocateWrite e g i r d s) := by
  unfold allocateWrite
  split
  · refine (((((Moves.done 0 p s).store
      (.allocate e _ g _ _ [waiterOf i r] s he hl hc hm (by simp) hg)).plain (.pop i _ ?_)).andThen
      (takeWake_internal _)).andThen (heldRose_internal _ _)).andThen (writeReport_internal _ _)
    exact h
  · refine ((((Moves.done 0 p s).store (.allocate e _ g _ _ [] s he hl hc hm (by simp) hg)).seq
      (answerHead_moves i _ _ _ ?_)).andThen (heldRose_internal _ _)).andThen (writeReport_internal _ _)
    exact h

theorem decideAllocation_moves {g : GroupIx} (h : s.initiators[i].queue ≠ []) (hl : lookup s (requestLine r) = none)
    (hm : requestMask r ≠ 0) (hg : s.groups[g].state = .holding) : Moves b 1 p s (decideAllocation g i r s) := by
  unfold decideAllocation
  split
  · next e he =>
    split
    · exact refuse_moves _ h
    · unfold allocatable at he
      split at he
      · cases he
      · next hc => exact allocateWrite_moves h (lowestFreeEntry_free he) hl (by simpa using hc) hm hg
  · split
    · exact refuse_moves _ h
    · exact decideByFullPolicy_moves h

theorem decidePass_moves (h : s.initiators[i].queue ≠ []) : Moves b n p s (decidePass i r s) := by
  unfold decidePass
  split
  · exact refuse_moves _ h
  · exact becomePass_moves h

theorem decideMiss_moves (h : s.initiators[i].queue ≠ []) (hl : lookup s (requestLine r) = none)
    (hm : requestMask r ≠ 0) : Moves b 1 p s (decideMiss i r s) := by
  unfold decideMiss
  split
  · split
    · next hg => exact decideAllocation_moves h hl hm hg
    · exact decidePass_moves h
  all_goals exact decidePass_moves h

theorem lookup_bound {l : LineAddr} {e : EntryIx} (h : lookup s l = some e) :
    s.entries[e].state ≠ .free ∧ s.entries[e].line = l := by
  simpa using List.find?_some h

theorem decideHeld_moves {e : EntryIx} (h : s.initiators[i].queue ≠ []) (he : s.entries[e].state = .held) :
    Moves b n p s (decideHeld e i r s) := by
  unfold decideHeld
  split
  · split
    · exact refuse_moves _ h
    split
    · exact wait_moves _ h
    · next hw => exact mergeWrite_moves h he fun _ => Nat.lt_of_not_le hw
  · exact mergeWrite_moves h he (by simp)

theorem decideByStore_moves (h : s.initiators[i].queue ≠ []) (hm : requestMask r ≠ 0) :
    Moves b 1 p s (decideByStore i r s) := by
  unfold decideByStore
  split
  · next e he =>
    split
    · exact refuse_moves _ h
    · exact wait_moves _ h
    · next hs => exact decideHeld_moves h hs
    · next hs => exact absurd hs (lookup_bound he).1
  · next hl => exact decideMiss_moves h hl hm

theorem decideWrite_moves (h : s.initiators[i].queue ≠ []) (hk : isWrite r = true ∨ malformed r = true) :
    Moves b 1 p s (decideWrite i r s) := by
  unfold decideWrite
  dsimp only
  split
  · exact refuseMalformed_moves h
  · next hm =>
    split
    · exact refuse_moves _ h
    split
    · exact wait_moves _ h
    split
    · exact wait_moves _ h
    · exact decideByStore_moves h (requestMask_ne_zero (hk.resolve_right hm) (by simpa using hm))

theorem enterRead_moves (h : s.initiators[i].queue ≠ []) (hl : s.reads.length < 12) :
    Moves b n p s (enterRead i r s) := by
  unfold enterRead
  refine (Moves.first (.reads _ s (.inr ?_)) (.first (.pop i _ ?_) (.done n p _))).andThen (readWake_internal _)
  · simp only [List.length_append, List.length_singleton]; omega
  · exact h

theorem decideMemoryRead_moves (h : s.initiators[i].queue ≠ []) : Moves b n p s (decideMemoryRead i r s) := by
  unfold decideMemoryRead
  split
  · exact refuse_moves _ h
  split
  · exact wait_moves _ h
  · next hl => exact enterRead_moves h (Nat.lt_of_not_le hl)

theorem fullHit_moves {e : EntryIx} (h : s.initiators[i].queue ≠ []) : Moves b n p s (fullHit e i r s) :=
  (answerHead_moves i _ _ s h).seq (setCounters_moves _ _)

theorem decideReadByStore_moves (h : s.initiators[i].queue ≠ []) : Moves b n p s (decideReadByStore i r s) := by
  unfold decideReadByStore
  split
  · split
    · exact refuse_moves _ h
    split
    · exact fullHit_moves h
    · exact decideMemoryRead_moves h
  · exact decideMemoryRead_moves h

theorem decideRead_moves (h : s.initiators[i].queue ≠ []) : Moves b n p s (decideRead i r s) := by
  unfold decideRead
  split
  · exact refuseMalformed_moves h
  split
  · exact refuse_moves _ h
  split
  · exact wait_moves _ h
  · exact decideReadByStore_moves h

theorem decideMarkedDrain_moves {m : Seq} (h : s.initiators[i].queue ≠ []) :
    Moves b n p s (decideMarkedDrain i r m s) := by
  unfold decideMarkedDrain
  split
  · exact answerHead_moves i _ _ s h
  split
  · exact refuse_moves _ h
  split
  · exact wait_moves _ h
  · next hl =>
    refine (Moves.first (.addDrain _ s (Nat.lt_of_not_le hl)) (.first (.pop i _ ?_) (.done n p _))).andThen
      (drainRequests_internal _ _)
    exact h

theorem decideDrain_moves (h : s.initiators[i].queue ≠ []) : Moves b n p s (decideDrain i r s) := by
  unfold decideDrain
  split
  · exact refuseMalformed_moves h
  split
  · exact answerHead_moves i _ _ s h
  split
  · exact answerHead_moves i _ _ s h
  · exact decideMarkedDrain_moves h

end decisions

theorem decidable_some {i : InitIx} {kind : Request → Bool} {r : Request} (h : decidable s i kind = some r) :
    s.initiators[i].queue ≠ [] ∧ s.initiators[i].head = .undecided ∧ (kind r = true ∨ isUndefinedKind r = true) ∧
      ∃ rest, s.initiators[i].queue = r :: rest := by
  unfold decidable at h
  split at h
  · next q rest hq hh =>
    split at h
    · next hk =>
      cases h
      exact ⟨by rw [hq]; simp, hh, by simpa using hk, rest, hq⟩
    · cases h
  · cases h

theorem undefined_malformed {r : Request} (h : isUndefinedKind r = true) : malformed r = true := by
  have : r.kind = 3 := by simpa [isUndefinedKind] using h
  simp [malformed, isRead, isWrite, isDrain, this]

theorem decision_moves {i : InitIx} {kind : Request → Bool} {f : Request → State → State}
    (h : ∀ r, decidable s i kind = some r → Moves b n p s (f r s)) : Moves b n p s (decision i kind f s) := by
  unfold decision
  split
  · next r hr => exact (h r hr).andThen (settle_internal _)
  · exact .done n p s

theorem whileRunning_moves {f : State → State} (h : running s = true → Moves b n p s (f s)) :
    Moves b n p s (whileRunning f s) := by
  unfold whileRunning
  split
  · next hr => exact h hr
  · exact .done n p s

/-! ## The arbiter's grant -/

theorem sendLine_moves (m : DownMessage) (s : State) : Moves .grants n p s (sendDown m s) :=
  (Moves.done n p s).plain (.sendLine m s rfl)

theorem updateRead_moves (i : InitIx) (u : UpTag) (f : PendingRead → PendingRead) (s : State) :
    Moves b n p s (updateRead i u f s) := reads_moves _ s (by simp)

theorem setRetries_moves (hb : b ≠ .idle) (x : List PassRetry) (y : List EntryIx) (s : State) :
    Moves b n p s { s with passRetries := x, releaseRetries := y } := (Moves.done n p s).plain (.retries x y s hb)

theorem grantRead_moves (k : TagIx) (r : PendingRead) (h : s.power.state = .awake) :
    Moves .grants n p s (grantRead k r s) :=
  (Moves.first (.occupy k _ _ s h rfl) (updateRead_moves _ _ _ _)).seq (sendLine_moves _ _)

theorem grantPassRetry_moves (k : TagIx) (x : PassRetry) (h : s.power.state = .awake) :
    Moves .grants n p s (grantPassRetry k x s) :=
  ((setRetries_moves (by decide) s.passRetries.tail s.releaseRetries s).pre
    (Moves.first (.occupy k _ _ _ h rfl) (.done n p _))).seq (sendLine_moves _ _)

theorem grantPass_moves (k : TagIx) {i : InitIx} (r : Request) (h : s.power.state = .awake)
    (hq : s.initiators[i].queue ≠ []) : Moves .grants n p s (grantPass k i r s) :=
  ((Moves.first (.occupy k _ _ s h rfl) (.done n p _)).seq (sendLine_moves _ _)).plain (.pop i _ hq)

theorem grantReleaseRetry_moves (k : TagIx) (e : EntryIx) (h : s.power.state = .awake) :
    Moves .grants n p s (grantReleaseRetry k e s) :=
  ((setRetries_moves (by decide) s.passRetries s.releaseRetries.tail s).pre
    (Moves.first (.occupy k _ _ _ h rfl) (.done n p _))).seq (sendLine_moves _ _)

theorem grantRelease_moves (k : TagIx) {e : EntryIx} (h : s.power.state = .awake) (he : s.entries[e].state = .held) :
    Moves .grants 1 p s (grantRelease k e s) :=
  ((Moves.first (.occupy k _ _ s h rfl) (.done 0 p _)).store (.startRelease e _ he h rfl)).seq (sendLine_moves _ _)

theorem firstCandidate_held {e : EntryIx} (h : firstCandidate s = some e) : s.entries[e].state = .held := by
  have hs : startable s e = true := by
    unfold firstCandidate at h
    rcases hx : s.ageList.find? (fun e => startable s e && s.entries[e].expedite) with _ | x
    · rw [hx] at h
      exact List.find?_some (by simpa using h)
    · rw [hx] at h
      cases (show some x = some e from h)
      have := List.find?_some hx
      simp only [Bool.and_eq_true] at this
      exact this.1
  simp only [startable, due, Bool.and_eq_true, beq_iff_eq] at hs
  exact hs.1.1

theorem passHead_some {i j : InitIx} {r : Request} (h : passHead s i = some (j, r)) :
    j = i ∧ s.initiators[i].queue ≠ [] := by
  unfold passHead at h
  split at h
  · next hq => cases h; exact ⟨rfl, by rw [hq]; simp⟩
  · cases h

theorem presentedPass_new {i : InitIx} {r : Request} (h : presentedPass s = some (.passNew i r)) :
    s.initiators[i].queue ≠ [] := by
  unfold presentedPass at h
  split at h
  · cases h
  · obtain ⟨⟨j, q⟩, hx, hy⟩ := Option.map_eq_some_iff.1 h
    cases hy
    obtain ⟨k, -, hk⟩ := List.exists_of_findSome?_eq_some hx
    obtain ⟨rfl, hq⟩ := passHead_some hk
    exact hq

theorem presentedRelease_new {e : EntryIx} (h : presentedRelease s = some (.releaseNew e)) :
    s.entries[e].state = .held := by
  unfold presentedRelease at h
  split at h
  · cases h
  · split at h
    · cases h
    · obtain ⟨x, hx, hy⟩ := Option.map_eq_some_iff.1 h
      cases hy
      exact firstCandidate_held hx

/-- R122, R123: what is presented comes from the reads, the pass-through writes or the release writes. -/
theorem presented_from {x : Presented} (h : presented s = some x) :
    (∃ r, presentedRead s = some r ∧ x = .read r) ∨ presentedPass s = some x ∨ presentedRelease s = some x := by
  unfold presented at h
  dsimp only at h
  split at h
  all_goals
    rcases hr : presentedRead s with _ | r <;> rcases hp : presentedPass s with _ | y <;>
      rcases hq : presentedRelease s with _ | z <;> simp_all

theorem grantTo_moves {k : TagIx} {x : Presented} (h : s.power.state = .awake) (hx : presented s = some x) :
    Moves .grants 1 p s (grantTo k x s) := by
  unfold grantTo
  split
  · exact grantRead_moves k _ h
  · exact grantPassRetry_moves k _ h
  · rcases presented_from hx with ⟨r, -, he⟩ | hq | hq
    · cases he
    · exact grantPass_moves k _ h (presentedPass_new hq)
    · unfold presentedRelease at hq
      split at hq
      · cases hq
      · split at hq <;> simp at hq
  · exact grantReleaseRetry_moves k _ h
  · rcases presented_from hx with ⟨r, -, he⟩ | hq | hq
    · cases he
    · unfold presentedPass at hq
      split at hq
      · cases hq
      · obtain ⟨y, -, hy⟩ := Option.map_eq_some_iff.1 hq
        cases hy
    · exact grantRelease_moves k h (presentedRelease_new hq)

theorem arbiterGrant_moves (s : State) : Moves .grants 1 p s (arbiterGrant s) := by
  unfold arbiterGrant
  split
  · next hg =>
    split
    · next x k hx hk =>
      simp only [mayGrant, Bool.and_eq_true, beq_iff_eq] at hg
      exact (grantTo_moves hg.1 hx).andThen (settle_internal _)
    · exact .done 1 p s
  · exact .done 1 p s

/-! ## Outcomes of attempts -/

theorem removeRead_moves (i : InitIx) (u : UpTag) (s : State) : Moves b n p s (removeRead i u s) :=
  reads_moves _ s (List.length_filter_le ..)

theorem readDone_moves (i : InitIx) (u : UpTag) (l : Line) (s : State) : Moves b n p s (readDone i u l s) := by
  unfold readDone
  split
  · exact (removeRead_moves i u s).andThen (respond_internal _ _ _ _)
  · exact .done n p s

theorem readFailed_moves (i : InitIx) (u : UpTag) (s : State) : Moves b n p s (readFailed i u s) := by
  unfold readFailed
  split
  · dsimp only
    split
    · exact (setCounters_moves _ s).seq (updateRead_moves _ _ _ _)
    · exact (((setCounters_moves _ s).seq (removeRead_moves i u _)).andThen (respond_internal _ _ _ _)).andThen
        (raise_internal _ _)
  · exact .done n p s

theorem passFailed_moves (w : PassWrite) (a : Nat) (s : State) : Moves .ends n p s (passFailed w a s) := by
  unfold passFailed
  dsimp only
  split
  · exact (setCounters_moves _ s).seq (setRetries_moves (by decide) _ _ _)
  · exact (setCounters_moves _ s).andThen (respond_internal _ _ _ _)

theorem carryReads_moves (l : LineAddr) (s : State) : Moves b n p s (carryReads l s) := reads_moves _ s (by simp)

theorem refuseReads_internal (c : ErrorCause) (l : List PendingRead) (s : State) :
    Internal s (l.foldl (refuseRead c) s) := .foldl (f := refuseRead c) (fun s r => respond_internal r.initiator r.tag _ s) l s

theorem refuseWaitingReads_moves (l : LineAddr) (s : State) : Moves b n p s (refuseWaitingReads l s) :=
  (reads_moves _ s (List.length_filter_le ..)).andThen (refuseReads_internal _ _ _)

theorem releaseDone_moves (e : EntryIx) (s : State) : Moves .ends 1 p s (releaseDone e s) := by
  unfold releaseDone
  dsimp only
  split
  · next he =>
    exact ((((Moves.done 0 p s).store (.releaseToFree e s he rfl)).seq (carryReads_moves _ _)).andThen
      (endStalls_internal _)).andThen (groupReport_internal _ _)
  · exact .done 1 p s

theorem lowestFreeFault_none {k : FaultIx} (h : lowestFreeFault s = some k) : s.faults[k] = none := by
  simpa using List.find?_some h

theorem faultRelease_moves {e : EntryIx} {k : FaultIx} (c : FailCause) (he : s.entries[e].state = .releasing)
    (hk : s.faults[k] = none) : Moves .ends 1 p s (faultRelease e k c s) :=
  (((Moves.done 0 p s).store (.releaseToFaulted e k c s he hk rfl)).seq (refuseWaitingReads_moves _ _)).andThen
    (groupReport_internal _ _)

theorem returnRelease_moves {e : EntryIx} (he : s.entries[e].state = .releasing) :
    Moves .ends 1 p s (returnRelease e s) :=
  ((((Moves.done 0 p s).store (.releaseToHeld e s he rfl)).seq (carryReads_moves _ _)).andThen
    (heldRose_internal _ _)).andThen (groupReport_internal _ _)

theorem countRetry_moves (s : State) : Moves b n p s (countRetry s) := setCounters_moves _ s

theorem releaseFailed_moves (e : EntryIx) (c : FailCause) (s : State) : Moves .ends 1 p s (releaseFailed e c s) := by
  unfold releaseFailed
  dsimp only
  split
  · next he =>
    refine (countRetry_moves s).pre ?_
    split
    · exact (setRetries_moves (by decide) _ _ (countRetry s)).pre
        (.first (.noteFailure e _ _ { countRetry s with releaseRetries := (countRetry s).releaseRetries ++ [e] } he rfl)
          (.done 1 p _))
    · refine Moves.first (.noteFailure e s.entries[e].attempts (some c) (countRetry s) he rfl) ?_
      have hu : (setEntry e { s.entries[e] with lastCause := some c } (countRetry s)).entries[e].state =
          .releasing := by simpa using he
      split
      · next k hk =>
        split at hk
        · cases hk
        · exact faultRelease_moves c hu (lowestFreeFault_none hk)
      · exact returnRelease_moves hu
  · exact .done 1 p s

theorem attemptFailed_moves (op : SlotOp) (a : Nat) (c : FailCause) (s : State) :
    Moves .ends 1 p s (attemptFailed op a c s) := by
  unfold attemptFailed
  split
  · exact readFailed_moves _ _ s
  · exact passFailed_moves _ a s
  · exact releaseFailed_moves _ c s

theorem attemptOk_moves (op : SlotOp) (bytes : List Byte) (s : State) : Moves .ends 1 p s (attemptOk op bytes s) := by
  unfold attemptOk
  split
  · split
    · exact readDone_moves _ _ _ s
    · exact readFailed_moves _ _ s
  · exact .internal (respond_internal _ _ _ s)
  · exact releaseDone_moves _ s

theorem handOver_moves (c : CompletionKind) (op : SlotOp) (a : Nat) (bytes : List Byte) (s : State) :
    Moves .ends 1 p s (handOver c op a bytes s) := by
  unfold handOver
  split
  · exact attemptOk_moves op bytes s
  · exact attemptFailed_moves op a _ s
  · exact attemptFailed_moves op a _ s

theorem complete_moves (c : CompletionKind) (k : TagIx) (bytes : List Byte) (s : State) :
    Moves .ends 1 p s (complete c k bytes s) := by
  unfold complete
  split
  · exact (Moves.first (.freeSlot k s rfl) (handOver_moves ..)).andThen (settle_internal _)
  · exact (Moves.first (.freeSlot k s rfl) (raise_moves _ _)).andThen (settle_internal _)
  · exact raise_moves _ s

theorem timeoutSlot_moves (k : TagIx) (s : State) : Moves .ends 1 p s (timeoutSlot k s) := by
  unfold timeoutSlot
  split
  · next op u a hk =>
    split
    · exact (Moves.first (.quarantine k _ _ _ s (by rw [hk]; rfl) rfl) (attemptFailed_moves ..)).andThen
        (settle_internal _)
    · exact .done 1 p s
  all_goals exact .done 1 p s

/-! ## The memory power controller -/

theorem powerTimes_moves {q : Power} (h : PowerTimes s.power q) : Moves b n p s (setPower q s) :=
  (Moves.done n p s).plain (.powerTimes q s h)

theorem enterAwake_moves (s : State) : Moves b n p s (enterAwake s) :=
  ((reads_moves _ s (by simp)).andThen (clearPendingReleases_internal (wakeReads s))).andThen (settle_internal _)

theorem requestSleep_moves (o : Bool) (h : s.power.state = .awake) (hi : idleCondition s = true) :
    Moves b n 1 s (requestSleep o s) :=
  ((Moves.done n 0 s).power (.power _ s (.sleep o h hi))).andThen (sendDown_internal rfl _)

theorem freeQuarantined_moves (s : State) : Moves b n p s (freeQuarantined s) :=
  (Moves.done n p s).plain (.freeQuarantined s)

theorem goAsleep_moves (h : s.power.state = .entering) : Moves b n 1 s (goAsleep s) := by
  have key : Moves b n 1 s (countSleep (freeQuarantined
      (setPower { s.power with state := .asleep, notedWake := false, cycleOwed := false } s))) :=
    ((Moves.done n 0 s).power (.asleep s h)).seq (setCounters_moves _ _)
  unfold goAsleep
  dsimp only
  split
  · refine key.andThen ((setPower_internal (.inr ?_)).trans (sendDown_internal rfl _))
    exact ⟨rfl, rfl, rfl, rfl, (fun h => by cases h), rfl, rfl, rfl, rfl⟩
  · exact key

theorem takeSleepAccept_moves (s : State) : Moves b n 1 s (takeSleepAccept s) := by
  unfold takeSleepAccept
  split
  · next h => exact goAsleep_moves h
  · exact raise_moves _ s

theorem takeSleepDecline_moves (s : State) : Moves b n 1 s (takeSleepDecline s) := by
  unfold takeSleepDecline
  split
  · next h => exact ((Moves.done n 0 s).power (.power _ s (.decline h))).seq (enterAwake_moves _)
  · exact raise_moves _ s

theorem takeWakeReady_moves (s : State) : Moves b n 1 s (takeWakeReady s) := by
  unfold takeWakeReady
  split
  · next h =>
    exact (((Moves.done n 0 s).power (.power _ s (.ready h))).seq (setCounters_moves _ _)).seq (enterAwake_moves _)
  · exact raise_moves _ s

theorem refuseAllWaiters_moves (s : State) : Moves b n p s (refuseAllWaiters s) :=
  (Moves.done n p s).seq (.foldl (fun s e => (Moves.done 0 0 s).plain (.refuseWaiters e s)) _ s)

theorem refuseAllReads_moves (s : State) : Moves b n p s (refuseAllReads s) :=
  (reads_moves [] s (Nat.zero_le _)).andThen (refuseReads_internal _ _ _)

theorem refuseAllDrains_internal (s : State) : Internal s (refuseAllDrains s) :=
  (setDrains_internal (List.nil_sublist _)).trans
    (.foldl (f := refuseDrain) (fun s d => respond_internal d.initiator d.tag _ s) _ _)

theorem refusePassHead_moves (s : State) (i : InitIx) : Moves b n p s (refusePassHead s i) := by
  unfold refusePassHead
  split
  · next hq => exact answerHead_moves i _ _ s (by rw [hq]; simp)
  · exact .done n p s

theorem refuseAllPassHeads_moves (s : State) : Moves b n p s (refuseAllPassHeads s) :=
  (Moves.done n p s).seq (.foldl (fun s i => refusePassHead_moves s i) _ s)

theorem enterUnavailable_moves (h : s.power.state = .waking) (ha : ¬s.power.attempt < 3) :
    Moves b n 1 s (enterUnavailable s) :=
  ((((((Moves.done n 0 s).power (.power _ s (.lost h ha))).seq (refuseAllWaiters_moves _)).seq
    (refuseAllReads_moves _)).andThen (refuseAllDrains_internal _)).seq (refuseAllPassHeads_moves _)).andThen
      ((endStalls_internal _).trans (settle_internal _))

theorem wakeTimeout_moves (h : s.power.state = .waking) : Moves b n 1 s (wakeTimeout s) := by
  unfold wakeTimeout
  split
  · next ha =>
    exact (((raise_moves .wakeRetry s).power
      (.power _ (raise .wakeRetry s) (.retry h ha))).andThen (sendDown_internal rfl _))
  · next ha => exact enterUnavailable_moves h ha

theorem windowStart_isSome (x : BitVec 16) : (windowStart x).isSome = true ↔ x ≠ 0 := by
  unfold windowStart
  split <;> simp_all

theorem makeStagedCurrent_moves (s : State) : Moves b n p s (makeStagedCurrent s) :=
  powerTimes_moves ⟨rfl, rfl, rfl, rfl, rfl, .inl (windowStart_isSome _)⟩

theorem windowBoundary_moves (s : State) : Moves b n p s (makeStagedCurrent (boundaryWake s)) :=
  (Moves.internal (boundaryWake_internal s)).seq (makeStagedCurrent_moves _)

/-! ## Timers -/

theorem tickOnce_moves (s : State) : Moves b n p s (tickOnce s) :=
  (notes_moves s.counters s.events (s.timestamp + 1) s.regs.tickDiv s.regs.respLimit s.opp s.chipSelectLow
    s.resetRecord s.frame s (andNot_self _)).seq
    (powerTimes_moves (q := tickPower s.power)
      ⟨rfl, rfl, by simp [tickPower, countDown], rfl, rfl, .inr (by simp [tickPower, countDown])⟩)

theorem setGroup_moves {g : GroupIx} {x : Group}
    (h : x.lineLimit.toNat ≤ 48 ∨ x.lineLimit = s.groups[g].lineLimit) : Moves b n p s (setGroup g x s) :=
  (Moves.done n p s).plain (.group g x s h)

theorem ageExpiry_moves (g : GroupIx) (s : State) : Moves b n p s (ageExpiry g s) := by
  unfold ageExpiry
  dsimp only
  split
  · have h : Moves b n p s (setGroup g { s.groups[g] with ageTimer := none } s) := setGroup_moves (.inr rfl)
    exact (h.andThen (expiryRequest_internal g _)).andThen (settle_internal _)
  · exact .done n p s

theorem quietExpiry_moves (g : GroupIx) (s : State) : Moves b n p s (quietExpiry g s) := by
  unfold quietExpiry
  dsimp only
  split
  · have h : Moves b n p s (setGroup g { s.groups[g] with quietTimer := none } s) := setGroup_moves (.inr rfl)
    exact (h.andThen (expiryRequest_internal g _)).andThen (settle_internal _)
  · exact .done n p s

/-! ## The management link and the register window -/

theorem manage_moves (c : CommandName) (args : List Byte) {judge : State → Answer}
    (h : (judge s).status = .ok → Moves b n p s (judge s).after) : Moves b n p s (manage c args judge s) := by
  unfold manage atEffectPoint
  split
  · refine Moves.seq ?_ (setFrame_moves _ _)
    unfold answerState
    split
    · next hk => exact h hk
    · exact .done n p s
  · exact .done n p s

theorem setRegs_moves {r : Regs} (h : RegistersSound s → RegistersSound (setRegs r s)) : Moves b n p s (setRegs r s) :=
  (Moves.done n p s).plain (.register r s h)

theorem storeRegister_moves (r : Register) (v : Nat) (s : State) (hr : inRange s r v = true)
    (hw : v < 2 ^ registerWidth r) : Moves b n p s (storeRegister r v s) := by
  cases r
  all_goals
    simp only [storeRegister, inRange, registerWidth, marksConsistent, Bool.and_eq_true, decide_eq_true_eq] at *
  case tickDiv =>
    refine setRegs_moves fun h => { h with tickDiv := ?_ }
    simp only [setRegs_regs, BitVec.toNat_ofNat]
    omega
  case fullPolicy =>
    have h : Moves b n p s (setRegs { s.regs with fullPolicy := fullPolicyOf v } s) :=
      setRegs_moves fun h => { h with }
    unfold writeFullPolicy
    dsimp only
    split
    · exact h.andThen ((endStalls_internal _).trans (settle_internal _))
    · exact h
  case deferLimit =>
    refine Moves.andThen ?_ (deferralTest_internal _)
    exact setRegs_moves fun h => { h with }
  case deferCount =>
    refine Moves.andThen ?_ (deferralTest_internal _)
    refine setRegs_moves fun h => { h with deferCount := ?_ }
    simp only [setRegs_regs, BitVec.toNat_ofNat]
    omega
  case rdRetry =>
    refine setRegs_moves fun h => { h with rdRetry := ?_ }
    simp only [setRegs_regs, BitVec.toNat_ofNat]
    omega
  case wrRetry =>
    refine setRegs_moves fun h => { h with wrRetry := ?_ }
    simp only [setRegs_regs, BitVec.toNat_ofNat]
    omega
  case creditLimit =>
    refine setRegs_moves fun h => { h with creditLimit := ?_ }
    simp only [setRegs_regs, BitVec.toNat_ofNat]
    omega
  case respLimit =>
    refine setRegs_moves fun h => { h with respLimit := ?_ }
    simp only [setRegs_regs, BitVec.toNat_ofNat]
    omega
  case highMark =>
    refine Moves.andThen ?_ (settle_internal _)
    refine setRegs_moves fun h => { h with highMark := ?_, lowMark := ?_, oppMark := ?_ }
    all_goals simp only [setRegs_regs, BitVec.toNat_ofNat]
    · omega
    · omega
    · have := h.oppMark
      omega
  case lowMark =>
    refine Moves.andThen ?_ (settle_internal _)
    refine setRegs_moves fun h => { h with lowMark := ?_ }
    simp only [setRegs_regs, BitVec.toNat_ofNat]
    omega
  case oppMark =>
    refine Moves.andThen ?_ (settle_internal _)
    refine setRegs_moves fun h => { h with oppMark := ?_ }
    simp only [setRegs_regs, BitVec.toNat_ofNat]
    omega
  case sleepDelay =>
    have h : Moves b n p s (setRegs { s.regs with sleepDelay := BitVec.ofNat 16 v } s) :=
      setRegs_moves fun h => { h with }
    exact (h.seq (powerTimes_moves (q := { s.power with sleepCountdown := none })
      ⟨rfl, rfl, rfl, rfl, rfl, .inr ⟨rfl, rfl⟩⟩)).andThen (idleTest_internal _)
  case wakeLimit =>
    refine setRegs_moves fun h => { h with wakeLimit := ?_ }
    simp only [setRegs_regs, BitVec.toNat_ofNat]
    omega
  case windowPeriod =>
    have h : Moves b n p s (setPower { s.power with staged := BitVec.ofNat 16 v } s) :=
      powerTimes_moves ⟨rfl, rfl, rfl, rfl, rfl, .inr ⟨rfl, rfl⟩⟩
    unfold writeWindowPeriod
    dsimp only
    split
    · exact h.seq (makeStagedCurrent_moves _)
    · exact h
  case lineLimit g =>
    refine setGroup_moves (.inl ?_)
    simp only [BitVec.toNat_ofNat]
    omega
  case attnEnable =>
    refine setRegs_moves fun h => { h with attnEnable := ?_ }
    simpa [namesNonCause] using hr
  case ageLimit g => exact setGroup_moves (.inr rfl)
  case relMode g => exact setGroup_moves (.inr rfl)
  case relValue g => exact setGroup_moves (.inr rfl)
  case companions g => exact setGroup_moves (.inr rfl)
  all_goals exact .done n p s

theorem judgeWrite_moves (r : Register) (v : BitVec 32) (s : State) : Moves b n p s (judgeWrite r v s).after := by
  unfold judgeWrite
  split
  · exact .done n p s
  split
  · exact .done n p s
  split
  · exact .done n p s
  split
  · exact .done n p s
  · next hw hr _ => exact storeRegister_moves r v.toNat s (by simpa using hr) (Nat.lt_of_not_le hw)

theorem writeRegister_moves (r : Register) (v : BitVec 32) (s : State) : Moves b n p s (writeRegister r v s) :=
  manage_moves .writeReg _ fun _ => judgeWrite_moves r v s

theorem judgeWriteReg_moves (k : Byte) (v : BitVec 32) (s : State) :
    Moves b n p s (judgeWriteReg k v s).after := by
  unfold judgeWriteReg
  split
  · exact judgeWrite_moves _ v s
  · exact .done n p s

/-- A command that answers data or a denial alone changes nothing. -/
theorem readOnly_moves {judge : State → Answer} (c : CommandName) (args : List Byte)
    (h : (judge s).after = s) : Moves b n p s (manage c args judge s) :=
  manage_moves c args fun _ => by rw [h]; exact .done n p s

theorem chipSelectFalls_moves (s : State) : Moves b n p s (chipSelectFalls s) := by
  unfold chipSelectFalls
  split
  · exact .done n p s
  · exact notes_moves s.counters s.events s.timestamp s.divider s.respLimitSeen s.opp true s.resetRecord _ s
      (andNot_self _)

theorem chipSelectRises_moves (s : State) : Moves b n p s (chipSelectRises s) :=
  notes_moves s.counters s.events s.timestamp s.divider s.respLimitSeen s.opp false s.resetRecord none s
    (andNot_self _)

/-! ## The management commands -/

theorem judgeTake_moves (s : State) : Moves b n p s (judgeTake s).after := setEvents_moves 0 s (by simp)

theorem judgeAck_moves (c : BitVec 16) (s : State) : Moves b n p s (judgeAck c s).after := by
  unfold judgeAck
  split
  · exact .done n p s
  · refine setEvents_moves _ s ?_
    ext i
    simp +contextual

theorem judgeReadReg_after (k : Byte) (s : State) : (judgeReadReg k s).after = s := by
  unfold judgeReadReg; split <;> rfl

theorem judgeRegionRead_after (k : Byte) (s : State) : (judgeRegionRead k s).after = s := by
  unfold judgeRegionRead; split <;> rfl

theorem judgeFaultRead_after (k : Byte) (s : State) : (judgeFaultRead k s).after = s := by
  unfold judgeFaultRead
  split
  · rfl
  · split <;> rfl

theorem judgeEntryPeek_after (k : Byte) (s : State) : (judgeEntryPeek k s).after = s := by
  unfold judgeEntryPeek; split <;> rfl

/-- R37: what REGION_WRITE stores is a content that a region table entry can hold. -/
theorem regionOf_storable {e : BitVec 64} {x : Region} (h : regionOf e = some x) : storable x := by
  unfold regionOf at h
  dsimp only at h
  split at h
  · cases h
    exact ⟨fun h => (by cases h), fun _ => rfl⟩
  split at h
  · cases h
  · next hs =>
  split at h
  · cases h
  · next hb =>
    split at h
    · cases h
      simp only [Bool.or_eq_true, decide_eq_true_eq, not_or, bne_iff_ne, ne_eq, not_not] at hs hb
      exact ⟨fun _ => ⟨Nat.le_of_not_lt hs.1, Nat.le_of_not_lt hs.2, hb⟩, fun h => (by cases h)⟩
    · cases h

theorem setRegion_sound {k : RegionIx} {x : Region} (hx : storable x) (h : RegistersSound s) :
    RegistersSound { s with regions := s.regions.set k x } := by
  refine { h with regions := fun j => ?_ }
  by_cases e : k = j
  · subst e
    simpa using hx
  · have : k.val ≠ j.val := fun v => e (Fin.ext v)
    simpa [this] using h.regions j

theorem judgeRegionWrite_moves (k : Byte) (x : BitVec 64) (s : State) :
    Moves b n p s (judgeRegionWrite k x s).after := by
  unfold judgeRegionWrite
  split
  · split
    · exact .done n p s
    · next k x _ hx _ => exact (Moves.done n p s).plain (.region _ s (setRegion_sound (regionOf_storable hx)))
  · exact .done n p s

theorem judgeGroupOpen_moves (x : Byte) (s : State) : Moves b n p s (judgeGroupOpen x s).after := by
  unfold judgeGroupOpen
  split
  · exact .done n p s
  split
  · exact .done n p s
  · exact setGroup_moves (.inr rfl)

theorem judgeGroupClose_moves (x : Byte) (s : State) : Moves b n p s (judgeGroupClose x s).after := by
  unfold judgeGroupClose
  split
  · exact .done n p s
  split
  · next g _ _ =>
    have h : Moves b n p s (setGroup g { s.groups[g] with
        state := .closing, ageTimer := none, quietTimer := none, episode := closeEpisode s } s) :=
      setGroup_moves (.inr rfl)
    exact ((h.andThen (requestWake_internal _ _)).andThen (testEpisode_internal _ _)).andThen (settle_internal _)
  · exact .done n p s

theorem judgeGroupReset_moves (x : Byte) (s : State) : Moves b n p s (judgeGroupReset x s).after := by
  unfold judgeGroupReset
  split
  · exact .done n p s
  split
  · exact setGroup_moves (.inr rfl)
  · exact .done n p s

theorem judgeRelease_moves (x : Byte) (s : State) : Moves b n p s (judgeRelease x s).after := by
  unfold judgeRelease
  split
  · exact .done n p s
  · exact .internal (releaseGroups_internal _ s)

theorem judgeWake_moves (s : State) : Moves b n p s (judgeWake s).after := by
  unfold judgeWake
  split
  · exact .done n p s
  · show Moves b n p s (softwareWake s)
    unfold softwareWake
    split
    · exact powerTimes_moves ⟨rfl, rfl, rfl, rfl, rfl, .inr ⟨rfl, rfl⟩⟩
    · exact .internal (takeWake_internal s)

theorem judgeCycle_moves (s : State) : Moves b n 1 s (judgeCycle s).after := by
  unfold judgeCycle
  split
  · next h =>
    simp only [Bool.and_eq_true, beq_iff_eq] at h
    exact requestSleep_moves true h.1 h.2
  · exact .done n 1 s

theorem judgeRecover_moves (s : State) : Moves b n 1 s (judgeRecover s).after := by
  unfold judgeRecover
  split
  · next h =>
    exact ((Moves.done n 0 s).power (.power _ s (.recover (by simpa [unavailable] using h)))).andThen
      (sendDown_internal rfl _)
  · exact .done n 1 s

theorem judgeFaultRetry_moves (x : Byte) (s : State) : Moves b 1 p s (judgeFaultRetry x s).after := by
  unfold judgeFaultRetry
  split
  · exact .done 1 p s
  split
  · exact .done 1 p s
  split
  · exact .done 1 p s
  split
  · exact .done 1 p s
  · next e _ he hg hc =>
    exact ((((Moves.done 0 p s).store (.retry e s (by simpa using he) (by simpa using hg) (by simpa using hc))).andThen
      (takeWake_internal _)).andThen (reportReentry_internal _ _)).andThen (settle_internal _)

theorem judgeFaultDiscard_moves (x : Byte) (s : State) : Moves b 1 p s (judgeFaultDiscard x s).after := by
  unfold judgeFaultDiscard
  split
  · exact .done 1 p s
  split
  · next e _ he =>
    exact ((Moves.done 0 p s).store (.discard e s he)).andThen ((endStalls_internal _).trans (settle_internal _))
  · exact .done 1 p s

theorem clearHistory_moves (h : ∀ e : EntryIx, s.entries[e].state = .free) : Moves b n p s (clearHistory s) :=
  (notes_moves .zero 0 0 s.divider s.respLimitSeen s.opp s.chipSelectLow { cause := .clear, lostLines := 0 } s.frame s
    (by simp)).plain (.restartNumbers _ h)

theorem judgeClear_moves (s : State) : Moves b n p s (judgeClear s).after := by
  unfold judgeClear
  split
  · next h =>
    have hf : ∀ e : EntryIx, s.entries[e].state = .free := by
      intro e
      simp only [clearAllowed, Bool.and_eq_true, Vector.all_eq_true, beq_iff_eq] at h
      exact h.1.1.1.2 e.val e.isLt
    exact (((clearHistory_moves hf).seq (freeQuarantined_moves _)).seq (makeStagedCurrent_moves _)).andThen
      ((endStalls_internal _).trans (settle_internal _))
  · exact .done n p s

/-! ## Every command -/

/-- The pin resets and their end. -/
def isReset : Instr → Bool
  | .powerOnReset | .warmReset | .resetEnd => true
  | _ => false

/-- The number of the power state's own transitions that a command can make; a wake cause taken in ASLEEP is not one. -/
def powerMoves : Instr → Nat
  | .sleepCountdownExpiry | .sleepAccept | .sleepDecline | .wakeReady | .wakeTimerExpiry | .cycle | .recover => 1
  | _ => 0

/-- What each command may do at the downstream port. -/
def portOf : Instr → Port
  | .grant => .grants
  | .completeOk .. | .completePoison .. | .completeFail .. | .slotTimeout _ => .ends
  | _ => .idle

/-- A command that is no reset is a sequence of moves, with line requests sent by GRANT alone, attempts ended by the
completions and timeouts alone, with at most one
transition of an entry, and with at most one of the power state's own, made by the commands of that kind. -/
theorem exec_moves {c : Instr} (hc : isReset c = false) (h : exec c s = .next t) :
    Moves (portOf c) 1 (powerMoves c) s t := by
  cases c <;> simp only [isReset, Bool.true_eq_false] at hc <;> cases h
  case upstreamRequest r => exact whileRunning_moves fun _ => upstreamArrival_moves r s
  case writeDecision i =>
    refine whileRunning_moves fun _ => decision_moves fun r hr => ?_
    have h := decidable_some hr
    exact decideWrite_moves h.1 (h.2.2.1.imp id undefined_malformed)
  case readDecision i =>
    exact whileRunning_moves fun _ => decision_moves fun r hr => decideRead_moves (decidable_some hr).1
  case drainDecision i =>
    exact whileRunning_moves fun _ => decision_moves fun r hr => decideDrain_moves (decidable_some hr).1
  case deferLimitReached =>
    refine whileRunning_moves fun _ => ?_
    split
    · exact .internal (takeWake_internal s)
    · exact .done 1 _ s
  case grant => exact whileRunning_moves fun _ => arbiterGrant_moves s
  case completeOk k l => exact whileRunning_moves fun _ => complete_moves .ok k l s
  case completePoison k l => exact whileRunning_moves fun _ => complete_moves .poison k l s
  case completeFail k l => exact whileRunning_moves fun _ => complete_moves .fail k l s
  case undefinedDownstreamMessage k =>
    refine whileRunning_moves fun _ => ?_
    split
    · exact raise_moves _ s
    · exact .done 1 _ s
  case slotTimeout k => exact whileRunning_moves fun _ => timeoutSlot_moves k s
  case sleepCountdownExpiry =>
    refine whileRunning_moves fun _ => ?_
    split
    · next hd =>
      simp only [sleepDue, Bool.and_eq_true, beq_iff_eq] at hd
      exact requestSleep_moves _ hd.1.1 hd.2
    · exact .done 1 _ s
  case sleepAccept => exact whileRunning_moves fun _ => takeSleepAccept_moves s
  case sleepDecline => exact whileRunning_moves fun _ => takeSleepDecline_moves s
  case wakeReady => exact whileRunning_moves fun _ => takeWakeReady_moves s
  case wakeTimerExpiry =>
    refine whileRunning_moves fun _ => ?_
    split
    · next hd =>
      simp only [wakeTimerDue, Bool.and_eq_true, beq_iff_eq] at hd
      exact wakeTimeout_moves hd.1
    · exact .done 1 _ s
  case windowBoundary =>
    refine whileRunning_moves fun _ => ?_
    split
    · exact windowBoundary_moves s
    · exact .done 1 _ s
  case ageTimerExpiry g => exact whileRunning_moves fun _ => ageExpiry_moves g s
  case quietTimerExpiry g => exact whileRunning_moves fun _ => quietExpiry_moves g s
  case tick => exact whileRunning_moves fun _ => tickOnce_moves s
  case oppChange level =>
    refine whileRunning_moves fun _ => ?_
    split
    · exact .done 1 _ s
    · exact (setOpp_moves level s).andThen (settle_internal _)
  case frameEnd => exact chipSelectRises_moves s
  case frameStart => exact chipSelectFalls_moves s
  case unknownCommand x =>
    split
    · unfold atEffectPoint
      split
      · exact setFrame_moves _ _
      · exact .done 1 _ s
    · exact .done 1 _ s
  case readReg k => exact readOnly_moves _ _ (judgeReadReg_after k s)
  case writeReg k v => exact manage_moves _ _ fun _ => judgeWriteReg_moves k v s
  case take => exact manage_moves _ _ fun _ => judgeTake_moves s
  case ack x => exact manage_moves _ _ fun _ => judgeAck_moves x s
  case regionRead k => exact readOnly_moves _ _ (judgeRegionRead_after k s)
  case regionWrite k x => exact manage_moves _ _ fun _ => judgeRegionWrite_moves k x s
  case groupOpen x => exact manage_moves _ _ fun _ => judgeGroupOpen_moves x s
  case groupClose x => exact manage_moves _ _ fun _ => judgeGroupClose_moves x s
  case groupReset x => exact manage_moves _ _ fun _ => judgeGroupReset_moves x s
  case release x => exact manage_moves _ _ fun _ => judgeRelease_moves x s
  case wake => exact manage_moves _ _ fun _ => judgeWake_moves s
  case cycle => exact manage_moves _ _ fun _ => judgeCycle_moves s
  case recover => exact manage_moves _ _ fun _ => judgeRecover_moves s
  case faultRead k => exact readOnly_moves _ _ (judgeFaultRead_after k s)
  case faultRetry x => exact manage_moves _ _ fun _ => judgeFaultRetry_moves x s
  case faultDiscard x => exact manage_moves _ _ fun _ => judgeFaultDiscard_moves x s
  case entryPeek k => exact readOnly_moves _ _ (judgeEntryPeek_after k s)
  case status => exact readOnly_moves _ _ rfl
  case clearCounters => exact manage_moves _ _ fun _ => setCounters_moves _ s
  case clear => exact manage_moves _ _ fun _ => judgeClear_moves s
  all_goals exact writeRegister_moves _ _ s

end Sys2Proof.Machine
end

