-- ==== Sys2Proof/Laws/PerInstr.lean ====
section
/-! SUPPORT. Laws/PerInstr.lean: the statement made of every command by itself: its frame has the number of argument
bytes that 10.4 gives its command byte, which is what ends the ARGUMENT phase of a frame (R175). -/

namespace Sys2Proof.Laws.FrameOfLength

/-- R175, 10.4: where command i is a command of the management link, the frame it is sent in has as many argument bytes
as its command byte calls for. -/
def Statement (i : Instr) : Prop :=
  ∀ (b : Byte) (args : List Byte) (n : CommandName), i.wf = true → frameOf i = some (b, args) →
    commandOfByte b = some n → args.length = argBytes n

theorem bytesBE_length (n v : Nat) : (bytesBE n v).length = n := by
  induction n generalizing v with
  | zero => rfl
  | succ n ih => simp [bytesBE, ih]

/-- 10.4: no two commands have the same command byte. -/
theorem commandOfByte_commandByte (n : CommandName) : commandOfByte (commandByte n) = some n := by
  cases n <;> decide

/-- A command that has no frame. -/
theorem no_frame {i : Instr} (h : frameOf i = none) : Statement i := by
  intro b args n _ hf
  simp [h] at hf

/-- A command that is sent with the command byte of n and the arguments l. -/
theorem of_frame {i : Instr} {n : CommandName} {l : List Byte} (h : frameOf i = some (commandByte n, l))
    (hl : l.length = argBytes n) : Statement i := by
  intro b args m _ hf hm
  rw [h] at hf
  cases hf
  rw [commandOfByte_commandByte] at hm
  cases hm
  exact hl

theorem writeArgs_length (k : Byte) (v : BitVec 32) : (writeArgs k v).length = argBytes .writeReg := by
  simp [writeArgs, bytesBE_length, argBytes]

/-- A write of register r. -/
theorem of_register {i : Instr} {r : Register} {v : BitVec 32}
    (h : frameOf i = some (commandByte .writeReg, registerWriteArgs r v)) : Statement i :=
  of_frame h (writeArgs_length ..)

theorem upstreamRequest (r : Request) : Statement (.upstreamRequest r) := no_frame rfl

theorem writeDecision (i : InitIx) : Statement (.writeDecision i) := no_frame rfl

theorem readDecision (i : InitIx) : Statement (.readDecision i) := no_frame rfl

theorem drainDecision (i : InitIx) : Statement (.drainDecision i) := no_frame rfl

theorem deferLimitReached : Statement .deferLimitReached := no_frame rfl

theorem grant : Statement .grant := no_frame rfl

theorem completeOk (tag : TagIx) (data : List Byte) : Statement (.completeOk tag data) := no_frame rfl

theorem completePoison (tag : TagIx) (data : List Byte) : Statement (.completePoison tag data) := no_frame rfl

theorem completeFail (tag : TagIx) (data : List Byte) : Statement (.completeFail tag data) := no_frame rfl

theorem undefinedDownstreamMessage (kind : BitVec 3) : Statement (.undefinedDownstreamMessage kind) := no_frame rfl

theorem slotTimeout (tag : TagIx) : Statement (.slotTimeout tag) := no_frame rfl

theorem sleepCountdownExpiry : Statement .sleepCountdownExpiry := no_frame rfl

theorem sleepAccept : Statement .sleepAccept := no_frame rfl

theorem sleepDecline : Statement .sleepDecline := no_frame rfl

theorem wakeReady : Statement .wakeReady := no_frame rfl

theorem wakeTimerExpiry : Statement .wakeTimerExpiry := no_frame rfl

theorem windowBoundary : Statement .windowBoundary := no_frame rfl

theorem ageTimerExpiry (g : GroupIx) : Statement (.ageTimerExpiry g) := no_frame rfl

theorem quietTimerExpiry (g : GroupIx) : Statement (.quietTimerExpiry g) := no_frame rfl

theorem tick : Statement .tick := no_frame rfl

theorem oppChange (level : Bool) : Statement (.oppChange level) := no_frame rfl

theorem powerOnReset : Statement .powerOnReset := no_frame rfl

theorem warmReset : Statement .warmReset := no_frame rfl

theorem resetEnd : Statement .resetEnd := no_frame rfl

theorem frameEnd : Statement .frameEnd := no_frame rfl

theorem unknownCommand (byte : Byte) : Statement (.unknownCommand byte) := by
  intro b args n hw hf hn
  cases hf
  simp [Instr.wf, hn] at hw

theorem readReg (number : Byte) : Statement (.readReg number) := of_frame rfl rfl

theorem writeReg (number : Byte) (value : BitVec 32) : Statement (.writeReg number value) :=
  of_frame rfl (writeArgs_length ..)

theorem tickDiv (value : BitVec 32) : Statement (.tickDiv value) := of_register rfl

theorem fullPolicy (value : BitVec 32) : Statement (.fullPolicy value) := of_register rfl

theorem deferLimit (value : BitVec 32) : Statement (.deferLimit value) := of_register rfl

theorem deferCount (value : BitVec 32) : Statement (.deferCount value) := of_register rfl

theorem creditLimit (value : BitVec 32) : Statement (.creditLimit value) := of_register rfl

theorem respLimit (value : BitVec 32) : Statement (.respLimit value) := of_register rfl

theorem highMark (value : BitVec 32) : Statement (.highMark value) := of_register rfl

theorem lowMark (value : BitVec 32) : Statement (.lowMark value) := of_register rfl

theorem oppMark (value : BitVec 32) : Statement (.oppMark value) := of_register rfl

theorem sleepDelay (value : BitVec 32) : Statement (.sleepDelay value) := of_register rfl

theorem windowPeriod (value : BitVec 32) : Statement (.windowPeriod value) := of_register rfl

theorem attnEnable (value : BitVec 32) : Statement (.attnEnable value) := of_register rfl

theorem ageLimit (g : GroupIx) (value : BitVec 32) : Statement (.ageLimit g value) := of_register rfl

theorem relMode (g : GroupIx) (value : BitVec 32) : Statement (.relMode g value) := of_register rfl

theorem relValue (g : GroupIx) (value : BitVec 32) : Statement (.relValue g value) := of_register rfl

theorem lineLimit (g : GroupIx) (value : BitVec 32) : Statement (.lineLimit g value) := of_register rfl

theorem companions (g : GroupIx) (value : BitVec 32) : Statement (.companions g value) := of_register rfl

theorem take : Statement .take := of_frame rfl rfl

theorem ack (causes : BitVec 16) : Statement (.ack causes) := of_frame rfl (bytesBE_length ..)

theorem regionRead (index : Byte) : Statement (.regionRead index) := of_frame rfl rfl

theorem regionWrite (index : Byte) (entry : BitVec 64) : Statement (.regionWrite index entry) :=
  of_frame rfl (by simp [bytesBE_length, argBytes])

theorem groupOpen (group : Byte) : Statement (.groupOpen group) := of_frame rfl rfl

theorem groupClose (group : Byte) : Statement (.groupClose group) := of_frame rfl rfl

theorem groupReset (group : Byte) : Statement (.groupReset group) := of_frame rfl rfl

theorem release (groups : Byte) : Statement (.release groups) := of_frame rfl rfl

theorem wake : Statement .wake := of_frame rfl rfl

theorem cycle : Statement .cycle := of_frame rfl rfl

theorem recover : Statement .recover := of_frame rfl rfl

theorem faultRead (slot : Byte) : Statement (.faultRead slot) := of_frame rfl rfl

theorem faultRetry (entry : Byte) : Statement (.faultRetry entry) := of_frame rfl rfl

theorem faultDiscard (entry : Byte) : Statement (.faultDiscard entry) := of_frame rfl rfl

theorem entryPeek (entry : Byte) : Statement (.entryPeek entry) := of_frame rfl rfl

theorem status : Statement .status := of_frame rfl rfl

theorem clearCounters : Statement .clearCounters := of_frame rfl rfl

theorem clear : Statement .clear := of_frame rfl rfl

theorem frameStart : Statement .frameStart := no_frame rfl

end Sys2Proof.Laws.FrameOfLength
end

