-- ==== Sys2Proof/Laws/Ports.lean ====
section
/-! SUPPORT. Laws/Ports.lean: what a command that neither grants nor ends an attempt leaves alone: the BUSY slots, the
retry lists and the set of RELEASING entries. A statement about the owners of attempts is left with GRANT, the
completions, SLOT_TIMEOUT and the pin resets; what the end of an attempt and a grant do to them is said once here too. -/

namespace Sys2Proof.Machine

/-- No attempt starts, ends or is handed on, and no entry starts or ends a release. -/
structure PortsKept (s t : State) : Prop where
  busy : ∀ (k : TagIx) (op : SlotOp) (a : Timestamp) (n : Nat),
    t.slots[k] = .busy op a n ↔ s.slots[k] = .busy op a n
  passes : t.slots.countP Slot.carriesPass = s.slots.countP Slot.carriesPass
  releases : t.slots.countP Slot.carriesRelease = s.slots.countP Slot.carriesRelease
  passRetries : t.passRetries = s.passRetries
  releaseRetries : t.releaseRetries = s.releaseRetries
  releasing : ∀ e : EntryIx, t.entries[e].state = .releasing ↔ s.entries[e].state = .releasing

namespace PortsKept

variable {s t u : State}

theorem refl (s : State) : PortsKept s s := ⟨fun _ _ _ _ => .rfl, rfl, rfl, rfl, rfl, fun _ => .rfl⟩

theorem trans (h : PortsKept s t) (k : PortsKept t u) : PortsKept s u :=
  ⟨fun x op a n => (k.busy x op a n).trans (h.busy x op a n), k.passes.trans h.passes, k.releases.trans h.releases,
    k.passRetries.trans h.passRetries, k.releaseRetries.trans h.releaseRetries,
    fun e => (k.releasing e).trans (h.releasing e)⟩

/-- A change that leaves the slots, the retry lists and the entries as they are. -/
theorem of_eq (hs : t.slots = s.slots) (hp : t.passRetries = s.passRetries)
    (hr : t.releaseRetries = s.releaseRetries) (he : t.entries = s.entries) : PortsKept s t :=
  ⟨fun _ _ _ _ => by rw [hs], by rw [hs], by rw [hs], hp, hr, fun _ => by rw [he]⟩

theorem of_internal (h : Internal s t) : PortsKept s t := of_eq h.slots h.passRetries h.releaseRetries h.entries

/-- A change of one entry that neither starts nor ends its release. -/
theorem of_entry {e : EntryIx} {x : Entry} (hs : t.slots = s.slots) (hp : t.passRetries = s.passRetries)
    (hr : t.releaseRetries = s.releaseRetries) (he : t.entries = s.entries.set e x)
    (hx : x.state = .releasing ↔ s.entries[e].state = .releasing) : PortsKept s t := by
  refine ⟨fun _ _ _ _ => by rw [hs], by rw [hs], by rw [hs], hp, hr, fun f => ?_⟩
  rw [he]
  by_cases h : e = f
  · subst h
    simpa using hx
  · have : e.val ≠ f.val := fun v => h (Fin.ext v)
    simp [this]

/-- A QUARANTINED slot goes FREE. -/
theorem of_slot {k : TagIx} {c : SlotKind} {a : Timestamp} {n : Nat} (hk : s.slots[k] = .quarantined c a n)
    (hs : t.slots = s.slots.set k .free) (hp : t.passRetries = s.passRetries)
    (hr : t.releaseRetries = s.releaseRetries) (he : t.entries = s.entries) : PortsKept s t := by
  have hv : s.slots[k.val] = .quarantined c a n := hk
  refine ⟨fun j op b m => ?_, ?_, ?_, hp, hr, fun e => by rw [he]⟩
  · rw [hs]
    by_cases h : k = j
    · subst h
      simp [hv]
    · have : k.val ≠ j.val := fun e => h (Fin.ext e)
      simp [this]
  all_goals simp [hs, Vector.countP_set, hv, Slot.carriesPass, Slot.carriesRelease]

theorem unquarantine_busy (x : Slot) (op : SlotOp) (a : Timestamp) (n : Nat) :
    unquarantine x = .busy op a n ↔ x = .busy op a n := by
  cases x <;> simp [unquarantine, Slot.isQuarantined]

theorem of_freeQuarantined (s : State) : PortsKept s (freeQuarantined s) := by
  refine ⟨fun k op a n => ?_, ?_, ?_, rfl, rfl, fun _ => .rfl⟩
  · simpa [freeQuarantined] using unquarantine_busy s.slots[k] op a n
  all_goals
    simp only [freeQuarantined, Vector.countP_map]
    congr 1
    funext x
    cases x <;> rfl

end PortsKept

/-- What removing a fault record can do: the fault list changes, and the halt may be lifted (R134, R163). -/
theorem removeRecordOf_internal (e : EntryIx) (s : State) :
    ∃ v w, Internal { s with faults := v, faultOrder := w } (removeRecordOf e s) := by
  unfold removeRecordOf
  split
  · next k _ =>
    unfold removeFaultAndLift
    dsimp only
    split
    · exact ⟨_, _, liftHalt_internal _⟩
    · exact ⟨_, _, .refl _⟩
  · exact ⟨s.faults, s.faultOrder, .refl s⟩

theorem removeRecordOf_ports (e : EntryIx) (s : State) : PortsKept s (removeRecordOf e s) := by
  obtain ⟨v, w, h⟩ := removeRecordOf_internal e s
  exact (PortsKept.of_eq (s := s) (t := { s with faults := v, faultOrder := w }) rfl rfl rfl rfl).trans (.of_internal h)

/-- A move of a command that neither grants nor ends an attempt. -/
theorem Move.ports {k : MoveKind} {s t : State} (m : Move .idle k s t) : PortsKept s t := by
  cases m with
  | internal h => exact .of_internal h
  | allocate e l g m b ws s he hl hc hm hw hg => exact .of_entry rfl rfl rfl rfl (by rw [he]; simp [newEntry])
  | merge e m b ws s he hw => exact .of_entry rfl rfl rfl rfl (by simp [mergedEntry])
  | occupy k op n s h hp => cases hp
  | sendLine m s h => cases h
  | freeSlot k s hp => cases hp
  | quarantine k c t n s h hp => cases hp
  | startRelease e s he hp hg => cases hg
  | releaseToFree e s he hp => cases hp
  | releaseToFaulted e k c s he hk hp => cases hp
  | releaseToHeld e s he hp => cases hp
  | noteFailure e n c s he hp => cases hp
  | retries p r s h => exact absurd rfl h
  | retry e s he hg hc =>
    refine (removeRecordOf_ports e s).trans (.of_entry rfl rfl rfl rfl ?_)
    rw [(removeRecordOf_ports e s).releasing e, he]
    simp
  | discard e s he =>
    refine (removeRecordOf_ports e s).trans (.of_entry (x := .cleared _) rfl rfl rfl rfl ?_)
    rw [(removeRecordOf_ports e s).releasing e, he]
    simp [Entry.cleared]
  | refuseWaiters e s =>
    unfold Machine.refuseWaiters
    dsimp only
    split
    · have h := PortsKept.of_internal (respondAll_internal s.entries[e].waiters (.error .unavailable) s)
      exact h.trans (.of_entry (x := { s.entries[e] with waiters := [] }) rfl rfl rfl rfl (h.releasing e).symm)
    · exact .refl s
  | freeQuarantined s => exact .of_freeQuarantined s
  | asleep s h =>
    have k := PortsKept.of_eq (s := s)
      (t := setPower { s.power with state := .asleep, notedWake := false, cycleOwed := false } s) rfl rfl rfl rfl
    exact k.trans (.of_freeQuarantined _)
  | _ => exact .of_eq rfl rfl rfl rfl

/-- A command other than GRANT, a completion, SLOT_TIMEOUT and the pin resets leaves the attempts to their owners. -/
theorem exec_ports {c : Instr} {s t : State} (hc : isReset c = false) (hp : portOf c = .idle)
    (h : exec c s = .next t) : PortsKept s t := by
  have hm := exec_moves hc h
  rw [hp] at hm
  exact hm.keep (P := PortsKept s) (fun _ _ _ m hs => hs.trans m.ports) (.refl s)

/-! ## The end of an attempt -/

/-- Entry e has ended its release, and nothing else of the owners has changed. -/
structure ReleaseEnds (e : EntryIx) (s t : State) : Prop where
  slots : t.slots = s.slots
  passRetries : t.passRetries = s.passRetries
  releaseRetries : t.releaseRetries = s.releaseRetries
  releasing : ∀ f : EntryIx, t.entries[f].state = .releasing ↔ f ≠ e ∧ s.entries[f].state = .releasing

theorem ReleaseEnds.then_internal {e : EntryIx} {s t u : State} (h : ReleaseEnds e s t) (k : Internal t u) :
    ReleaseEnds e s u :=
  ⟨k.slots.trans h.slots, k.passRetries.trans h.passRetries, k.releaseRetries.trans h.releaseRetries,
    fun f => by rw [k.entries]; exact h.releasing f⟩

theorem ReleaseEnds.of_entry {e : EntryIx} {x : Entry} {s t : State} (hs : t.slots = s.slots)
    (hp : t.passRetries = s.passRetries) (hr : t.releaseRetries = s.releaseRetries)
    (he : t.entries = s.entries.set e x) (hx : x.state ≠ .releasing) : ReleaseEnds e s t := by
  refine ⟨hs, hp, hr, fun f => ?_⟩
  rw [he]
  by_cases h : e = f
  · subst h
    simpa using hx
  · have hv : e.val ≠ f.val := fun v => h (Fin.ext v)
    simp [hv, Ne.symm h]

/-- What handing an operation's outcome to its owner can do at the port: nothing; a pass-through retry; the end of a
release; or a release retry. -/
inductive Handed (s t : State) : SlotOp → Prop
  | kept (op : SlotOp) (h : PortsKept s t) (hr : ∀ e, op = .release e → s.entries[e].state ≠ .releasing) :
      Handed s t op
  | passRetry (w : PassWrite) (x : PassRetry)
      (h : PortsKept { s with passRetries := s.passRetries ++ [x] } t) : Handed s t (.pass w)
  | ends (e : EntryIx) (he : s.entries[e].state = .releasing) (h : ReleaseEnds e s t) : Handed s t (.release e)
  | releaseRetry (e : EntryIx) (he : s.entries[e].state = .releasing)
      (h : PortsKept { s with releaseRetries := s.releaseRetries ++ [e] } t) : Handed s t (.release e)

theorem Handed.then_internal {s t u : State} {op : SlotOp} (h : Handed s t op) (k : Internal t u) :
    Handed s u op := by
  cases h with
  | kept _ h hr => exact .kept op (h.trans (.of_internal k)) hr
  | passRetry w x h => exact .passRetry w x (h.trans (.of_internal k))
  | ends e he h => exact .ends e he (h.then_internal k)
  | releaseRetry e he h => exact .releaseRetry e he (h.trans (.of_internal k))

/-- The moves that leave the slots, the retry lists and the entries as they are. -/
theorem readDone_ports (i : InitIx) (u : UpTag) (l : Line) (s : State) : PortsKept s (readDone i u l s) := by
  unfold readDone
  split
  · exact (PortsKept.of_eq (s := s) (t := removeRead i u s) rfl rfl rfl rfl).trans (.of_internal (respond_internal ..))
  · exact .refl s

theorem readFailed_ports (i : InitIx) (u : UpTag) (s : State) : PortsKept s (readFailed i u s) := by
  unfold readFailed
  split
  · dsimp only
    split
    · exact .of_eq rfl rfl rfl rfl
    · exact (PortsKept.of_eq (s := s) (t := removeRead i u (countRetry s)) rfl rfl rfl rfl).trans
        (.of_internal ((respond_internal ..).trans (raise_internal ..)))
  · exact .refl s

theorem passFailed_handed (w : PassWrite) (a : Nat) (s : State) : Handed s (passFailed w a s) (.pass w) := by
  unfold passFailed
  dsimp only
  split
  · exact .passRetry w { write := w, failed := a } (.of_eq rfl rfl rfl rfl)
  · refine .kept _ ((PortsKept.of_eq (s := s) (t := countRetry s) rfl rfl rfl rfl).trans (.of_internal (respond_internal ..))) ?_
    intro e h
    cases h

theorem releaseDone_handed (e : EntryIx) (s : State) : Handed s (releaseDone e s) (.release e) := by
  unfold releaseDone
  dsimp only
  split
  · next he =>
    have hi := respondAll_internal s.entries[e].waiters .done s
    refine .ends e he (ReleaseEnds.then_internal (t := carryReads s.entries[e].line (releaseToFree e s)) ?_
      ((endStalls_internal _).trans (groupReport_internal _ _)))
    exact .of_entry (x := .cleared s.entries[e].data) hi.slots hi.passRetries hi.releaseRetries
      (congrArg (·.set e (.cleared s.entries[e].data)) hi.entries) (by simp [Entry.cleared])
  · next he => exact .kept _ (.refl s) fun f h => by cases h; exact he

theorem refuseWaitingReads_ends {e : EntryIx} {l : LineAddr} {s t : State} (h : ReleaseEnds e s t) :
    ReleaseEnds e s (refuseWaitingReads l t) := by
  unfold refuseWaitingReads
  refine ReleaseEnds.then_internal ?_ (refuseReads_internal _ _ _)
  exact ⟨h.slots, h.passRetries, h.releaseRetries, h.releasing⟩

theorem releaseFailed_handed (e : EntryIx) (c : FailCause) (s : State) : Handed s (releaseFailed e c s) (.release e) := by
  unfold releaseFailed
  dsimp only
  split
  · next he =>
    split
    · exact .releaseRetry e he (.of_entry rfl rfl rfl rfl .rfl)
    · split
      · next k hk =>
        refine .ends e he (ReleaseEnds.then_internal (refuseWaitingReads_ends ?_) (groupReport_internal _ _))
        generalize hu : setEntry e { s.entries[e] with lastCause := some c } (countRetry s) = u
        have hi := respondAll_internal u.entries[e].waiters (.error .memory) u
        have hr : u.entries = s.entries.set e { s.entries[e] with lastCause := some c } := by rw [← hu]; rfl
        have hs : u.slots = s.slots ∧ u.passRetries = s.passRetries ∧ u.releaseRetries = s.releaseRetries := by
          rw [← hu]; exact ⟨rfl, rfl, rfl⟩
        refine .of_entry (x := { u.entries[e] with state := .faulted, waiters := [], faultSlot := some k })
          (hi.slots.trans hs.1) (hi.passRetries.trans hs.2.1) (hi.releaseRetries.trans hs.2.2) ?_ (by simp)
        show (respondAll u.entries[e].waiters (.error .memory) u).entries.set e _ = _
        rw [hi.entries, hr]
        simp
      · refine .ends e he (ReleaseEnds.then_internal (t := carryReads _ (releaseToHeld e _)) ?_
          ((heldRose_internal _ _).trans (groupReport_internal _ _)))
        refine .of_entry
          (x := { s.entries[e] with lastCause := none, state := .held, attempts := 0 }) rfl rfl rfl ?_ (by simp)
        simp [carryReads, releaseToHeld, setEntry]
  · next he => exact .kept _ (.refl s) fun f h => by cases h; exact he

theorem attemptFailed_handed (op : SlotOp) (a : Nat) (c : FailCause) (s : State) :
    Handed s (attemptFailed op a c s) op := by
  unfold attemptFailed
  split
  · exact .kept _ (readFailed_ports ..) fun e h => by cases h
  · exact passFailed_handed ..
  · exact releaseFailed_handed ..

theorem handOver_handed (c : CompletionKind) (op : SlotOp) (a : Nat) (bytes : List Byte) (s : State) :
    Handed s (handOver c op a bytes s) op := by
  unfold handOver
  split
  · unfold attemptOk
    split
    · split
      · exact .kept _ (readDone_ports ..) fun e h => by cases h
      · exact .kept _ (readFailed_ports ..) fun e h => by cases h
    · exact .kept _ (.of_internal (respond_internal ..)) fun e h => by cases h
    · exact releaseDone_handed ..
  · exact attemptFailed_handed ..
  · exact attemptFailed_handed ..

/-- A completion or a timeout that ends an attempt: its slot is no longer BUSY, and the operation is handed to its
owner; any other leaves the attempts to their owners. -/
theorem complete_ports (c : CompletionKind) (k : TagIx) (bytes : List Byte) (s : State) :
    PortsKept s (complete c k bytes s) ∨
      ∃ op a n, s.slots[k] = .busy op a n ∧ Handed (setSlot k .free s) (complete c k bytes s) op := by
  unfold complete
  split
  · next op a n h => exact .inr ⟨op, a, n, h, (handOver_handed ..).then_internal (settle_internal _)⟩
  · next x a n h =>
    refine .inl (PortsKept.trans ?_ (.of_internal ((raise_internal _ _).trans (settle_internal _))))
    exact .of_slot h rfl rfl rfl rfl
  · exact .inl (.of_internal (raise_internal _ s))

theorem timeoutSlot_ports (k : TagIx) (s : State) :
    timeoutSlot k s = s ∨
      ∃ op a n, s.slots[k] = .busy op a n ∧ Handed (setSlot k (.quarantined (kindOf op) a n) s) (timeoutSlot k s) op := by
  unfold timeoutSlot
  split
  · next op a n h =>
    split
    · exact .inr ⟨op, a, n, h, (attemptFailed_handed ..).then_internal (settle_internal _)⟩
    · exact .inl rfl
  all_goals exact .inl rfl

/-! ## A grant -/

/-- Where the operation of a granted slot comes from, and what leaves its list for the slot (R115, R122, R124, R127). -/
inductive Granted (s t : State) : SlotOp → Prop
  | read (i : InitIx) (u : UpTag) (hp : t.passRetries = s.passRetries) (hr : t.releaseRetries = s.releaseRetries)
      (he : t.entries = s.entries) : Granted s t (.read i u)
  | passRetry (x : PassRetry) (hp : s.passRetries = x :: t.passRetries) (hr : t.releaseRetries = s.releaseRetries)
      (he : t.entries = s.entries) : Granted s t (.pass x.write)
  | passNew (w : PassWrite) (hn : s.passRetries = []) (hp : t.passRetries = [])
      (hr : t.releaseRetries = s.releaseRetries) (he : t.entries = s.entries) : Granted s t (.pass w)
  | releaseRetry (e : EntryIx) (hp : t.passRetries = s.passRetries) (hr : s.releaseRetries = e :: t.releaseRetries)
      (he : t.entries = s.entries) : Granted s t (.release e)
  | releaseNew (e : EntryIx) (hp : t.passRetries = s.passRetries) (hn : s.releaseRetries = [])
      (hr : t.releaseRetries = []) (hs : s.entries[e].state = .held)
      (he : ∀ f : EntryIx, t.entries[f].state = .releasing ↔ f = e ∨ s.entries[f].state = .releasing) :
      Granted s t (.release e)

theorem Granted.then_internal {s t u : State} {op : SlotOp} (h : Granted s t op) (k : Internal t u) :
    Granted s u op := by
  cases h with
  | read i v hp hr he =>
    exact .read i v (k.passRetries.trans hp) (k.releaseRetries.trans hr) (k.entries.trans he)
  | passRetry x hp hr he =>
    exact .passRetry x (by rw [k.passRetries]; exact hp) (k.releaseRetries.trans hr) (k.entries.trans he)
  | passNew w hn hp hr he =>
    exact .passNew w hn (k.passRetries.trans hp) (k.releaseRetries.trans hr) (k.entries.trans he)
  | releaseRetry e hp hr he =>
    exact .releaseRetry e (k.passRetries.trans hp) (by rw [k.releaseRetries]; exact hr) (k.entries.trans he)
  | releaseNew e hp hn hr hs he =>
    exact .releaseNew e (k.passRetries.trans hp) hn (k.releaseRetries.trans hr) hs (by rw [k.entries]; exact he)

theorem presentedPass_retries {s : State} {x : Presented} (h : presentedPass s = some x) :
    (∃ p rest, s.passRetries = p :: rest ∧ x = .passRetry p) ∨ (s.passRetries = [] ∧ ∃ i r, x = .passNew i r) := by
  unfold presentedPass at h
  split at h
  · next p rest hp =>
    cases h
    exact .inl ⟨p, rest, hp, rfl⟩
  · next hp =>
    obtain ⟨⟨i, r⟩, -, hy⟩ := Option.map_eq_some_iff.1 h
    cases hy
    exact .inr ⟨hp, i, r, rfl⟩

theorem presentedRelease_retries {s : State} {x : Presented} (h : presentedRelease s = some x) :
    (∃ e rest, s.releaseRetries = e :: rest ∧ x = .releaseRetry e) ∨
      (s.releaseRetries = [] ∧ ∃ e, s.entries[e].state = .held ∧ x = .releaseNew e) := by
  unfold presentedRelease at h
  split at h
  · next e rest hr =>
    cases h
    exact .inl ⟨e, rest, hr, rfl⟩
  · next hr =>
    split at h
    · cases h
    · obtain ⟨e, he, hy⟩ := Option.map_eq_some_iff.1 h
      cases hy
      exact .inr ⟨hr, e, firstCandidate_held he, rfl⟩

theorem grantTo_ports {s : State} {x : Presented} (k : TagIx) (h : presented s = some x) :
    ∃ op a n, (grantTo k x s).slots = s.slots.set k (.busy op a n) ∧ Granted s (grantTo k x s) op := by
  rcases presented_from h with ⟨r, -, rfl⟩ | hp | hp
  · exact ⟨_, _, _, rfl, .read _ _ rfl rfl rfl⟩
  · rcases presentedPass_retries hp with ⟨p, rest, hl, rfl⟩ | ⟨hl, i, r, rfl⟩
    · refine ⟨_, _, _, rfl, .passRetry p ?_ rfl rfl⟩
      show s.passRetries = p :: s.passRetries.tail
      rw [hl]
      rfl
    · exact ⟨_, _, _, rfl, .passNew _ hl hl rfl rfl⟩
  · rcases presentedRelease_retries hp with ⟨e, rest, hl, rfl⟩ | ⟨hl, e, he, rfl⟩
    · refine ⟨_, _, _, rfl, .releaseRetry e rfl ?_ rfl⟩
      show s.releaseRetries = e :: s.releaseRetries.tail
      rw [hl]
      rfl
    · refine ⟨_, _, _, rfl, .releaseNew e rfl hl hl he fun f => ?_⟩
      show (s.entries.set e { s.entries[e] with state := .releasing, attempts := 0 })[f].state = .releasing ↔ _
      by_cases h : e = f
      · subst h
        simp
      · have hv : e.val ≠ f.val := fun v => h (Fin.ext v)
        simp [hv, Ne.symm h]

/-- A grant makes none, or fills a FREE slot with what its source gives up for it. -/
theorem arbiterGrant_ports (s : State) :
    arbiterGrant s = s ∨ ∃ (k : TagIx) (op : SlotOp) (a : Timestamp) (n : Nat), s.slots[k] = .free ∧
      (arbiterGrant s).slots = s.slots.set k (.busy op a n) ∧ Granted s (arbiterGrant s) op := by
  unfold arbiterGrant
  split
  · split
    · next x k hx hk =>
      obtain ⟨op, a, n, hs, hg⟩ := grantTo_ports k hx
      have hi := settle_internal (grantTo k x s)
      exact .inr ⟨k, op, a, n, by simpa using List.find?_some hk, hi.slots.trans hs, hg.then_internal hi⟩
    · exact .inl rfl
  · exact .inl rfl

end Sys2Proof.Machine
end

