-- ==== Sys2Proof/Laws/Serial.lean ====
section
/-! SUPPORT. Laws/Serial.lean: what one step can do, said once, with the management link's bytes among it; a statement
about every step is then one about every command and one about the frame record. -/

namespace Sys2Proof.Machine

/-- A step that carries out no command changes at most the frame record and the bytes to be clocked; every other step is
a command's, taken in a state that differs in the queue, those bytes and the frame record alone. -/
theorem step_cases {s t : State} (h : step s = .next t) :
    (∃ l f, t = { s with serialIn := l, frame := f }) ∨
      ∃ (c : Instr) (q : List Instr) (l : List Byte) (f : Option Frame),
        exec c { s with pending := q, serialIn := l, frame := f } = .next t := by
  unfold step at h
  split at h
  · unfold whileNoCommand at h
    split at h
    · cases h
      exact .inl ⟨s.serialIn, s.frame, rfl⟩
    · next rest _ =>
      unfold clockByte at h
      split at h
      · cases h
        exact .inl ⟨rest, s.frame, rfl⟩
      split at h
      · split at h
        · exact .inr ⟨_, s.pending, rest, _, h⟩
        · cases h
          exact .inl ⟨rest, _, rfl⟩
      · cases h
        exact .inl ⟨rest, s.frame, rfl⟩
  · exact .inr ⟨_, _, s.serialIn, s.frame, h⟩

/-- R175: a byte clocked while no command waits and no reset is asserted, with a frame in progress, is its command's
effect point or goes into the frame record. -/
theorem step_byte {s : State} {b : Byte} {rest : List Byte} {f : Frame} (hp : s.pending = [])
    (hs : s.serialIn = b :: rest) (hr : s.resetPin = .released) (hf : s.frame = some f) :
    step s =
      match effectOfByte b f with
      | some c => exec c { s with serialIn := rest, frame := some .started }
      | none => .next { s with serialIn := rest, frame := some (frameAfterByte b f) } := by
  have hu : running { s with serialIn := rest } = true := by simp [running, hr]
  have hc : step s = clockByte b { s with serialIn := rest } := by
    simp only [step, hp, whileNoCommand, hs]
  rw [hc]
  unfold clockByte
  split
  · next h => exact absurd (h.symm.trans hf) (by simp)
  · next g hg =>
    cases hf.symm.trans hg
    rw [if_pos hu]
    cases effectOfByte b f <;> rfl

theorem steps_succ {n : Nat} {s t : State} (h : step s = .next t) : steps (n + 1) s = steps n t := by
  simp [steps, h]

end Sys2Proof.Machine
end

