-- ==== Sys2Proof/Tests/Slice0.lean ====
section
/-! SUPPORT. Tests/Slice0.lean: ill-formed terms that WellFormed refuses, frame bytes written from 10.4, small tests of
single commands whose results are read from the rules named, and for each statement of Obligations.lean that has
hypotheses a named state and operands that meet them. -/

namespace Sys2Proof.Tests

/-! The many kernel evaluations of this file are taken one after the other. -/

set_option Elab.async false

open Sys2Proof.Machine

/-! ## Small states -/

/-- The state after a command. -/
def after (c : Instr) (s : State) : State :=
  match exec c s with
  | .next t => t
  | .fault _ | .refused _ => s

/-- The part in a power state, with the wake timer stopped. -/
def powered (p : PowerState) (attempt : Nat) (s : State) : State :=
  { s with power := { Power.powerOn with state := p, attempt := attempt, wakeTimer := none } }

/-- The part in AWAKE with nothing held. -/
def awake : State := powered .awake 0 .reset

/-- Region 0 holds the first MiB for group 0, which is HOLDING; region 1 blocks the second. -/
def holding : State :=
  { awake with
    regions := (awake.regions.set 0
      { valid := true, base := 0, sizeLog := 20, policy := .hold 0 false, readClass := .deferrable }).set 1
      { valid := true, base := 0x100000, sizeLog := 20, policy := .block, readClass := .urgent }
    groups := awake.groups.set 0 { Group.powerOn with state := .holding } }

/-- An entry of line 1 and group 0 that holds the first eight bytes. -/
def entry (st : EntryState) : Entry :=
  { Entry.cleared .zero with state := st, line := 1, mask := 0xFF }

/-- Entry 0 HELD. -/
def held : State :=
  { holding with
    entries := holding.entries.set 0 (entry .held), ageList := [0], seqCounter := 1
    counts := { holding.counts with held := 1, groupHeld := holding.counts.groupHeld.set 0 1 } }

/-- Entry 0 RELEASING. -/
def releasing : State :=
  { holding with
    entries := holding.entries.set 0 (entry .releasing), seqCounter := 1
    counts := { holding.counts with releasing := 1 } }

/-- The fault record of entry 0. -/
def record : FaultRecord :=
  { entry := 0, line := 1, group := 0, mask := 0xFF, cause := .fail, attemptsMade := 3, time := 0 }

/-- Entry 0 FAULTED, its record in slot 0. -/
def faulted : State :=
  { holding with
    entries := holding.entries.set 0 { entry .faulted with faultSlot := some 0, lastCause := some .fail }
    seqCounter := 1, counts := { holding.counts with faulted := 1 }
    faults := holding.faults.set 0 (some record), faultOrder := [0] }

/-- A fault list that holds 6 records, as the halt's test reads it. -/
def haltedList (s : State) : State := { s with faultOrder := [0, 1, 2, 3, 4, 5] }

/-- A READ of eight bytes, tag 5. -/
def read (a : Addr) : Request :=
  { kind := 0, initiator := 0, tag := 5, attributes := 0, groups := 0, length := 8, address := a, data := [] }

/-- A WRITE of eight bytes 0x11, tag 5. -/
def write (a : Addr) : Request :=
  { read a with kind := 1, data := List.replicate 8 0x11 }

/-- A DURABLE WRITE. -/
def durable (a : Addr) : Request := { write a with attributes := 1 }

/-- A DRAIN of group 0. -/
def drain : Request := { read 0 with kind := 2, length := 0, groups := 1 }

/-- Initiator 0's queue holds one request at its head. -/
def queued (r : Request) (s : State) : State :=
  setInitiator 0 { queue := [r], head := .undecided, tags := 1 <<< r.tag.toNat, credits := 3 } s

/-- Initiator 0's head is a pass-through write. -/
def passing (s : State) : State :=
  setInitiator 0 { queue := [write 0x40], head := .passThrough, tags := 0x20, credits := 3 } s

/-- A pending read of line 1. -/
def pendingRead (c : ReadClass) (st : ReadState) : PendingRead :=
  { initiator := 0, tag := 5, address := 0x44, length := 8, readClass := c, arrival := 0, state := st, attempts := 0,
    slot := none }

/-- A pass-through write of line 1. -/
def passWrite : PassWrite :=
  { initiator := 0, tag := 5, address := 0x40, mask := 0xFF, bytes := .zero }

/-- A drain record of group 0. -/
def drainRecord : Drain := { initiator := 0, tag := 5, groups := 1, mark := 0, arrival := 0 }

/-- Slot 0 BUSY since the timestamp 0. -/
def busy (op : SlotOp) (attempt : Nat) (s : State) : State :=
  { s with slots := s.slots.set 0 (.busy op 0 attempt) }

/-- A frame has started. -/
def framed (s : State) : State := { s with chipSelectLow := true, frame := some .started }

/-- The captured response of a command in a fresh frame: the status byte and the data bytes. -/
def response (c : Instr) (s : State) : Option (List Byte) := (after c (framed s)).frame.map Frame.response

/-- The part with no reset asserted takes a command in a fresh frame. -/
theorem takesCommand_framed {s : State} (h : s.resetPin = .released) : takesCommand (framed s) = true := by
  simp [takesCommand, framed, running, Frame.started, h]

/-! ## Well-formed terms -/

theorem test_wf_refuses_long_request :
    Instr.wf (.upstreamRequest { write 0 with data := List.replicate 128 0 }) = false ∧
      Instr.wf (.upstreamRequest { write 0 with data := List.replicate 127 0 }) = true := by decide +kernel

theorem test_wf_refuses_defined_kinds :
    Instr.wf (.undefinedDownstreamMessage 0) = false ∧ Instr.wf (.undefinedDownstreamMessage 6) = false ∧
      Instr.wf (.undefinedDownstreamMessage 7) = true := by decide

theorem test_wf_refuses_named_byte :
    Instr.wf (.unknownCommand 0x16) = false ∧ Instr.wf (.unknownCommand 0x07) = true := by decide

theorem test_wf_refuses_row_of_its_own :
    Instr.wf (.writeReg 1 100) = false ∧ Instr.wf (.writeReg 5 1) = true ∧ Instr.wf (.writeReg 13 1) = true := by
  decide

/-! ## Frame bytes (10.4, 9.6) -/

/-- READ_REG 62, TAKE, ACK of RESET_SEEN. -/
theorem test_frame_attention :
    decodeFrame 0x01 [0x3E] = some (.readReg 62) ∧ decodeFrame 0x03 [] = some .take ∧
      decodeFrame 0x04 [0x10, 0x00] = some (.ack 0x1000) := by decide

/-- WRITE_REG of DEFER_LIMIT (3), RD_RETRY (5) and LINE_LIMIT of group 2 (35). -/
theorem test_frame_registers :
    decodeFrame 0x02 [0x03, 0, 0, 0x07, 0xD0] = some (.deferLimit 2000) ∧
      decodeFrame 0x02 [0x05, 0, 0, 0, 3] = some (.writeReg 5 3) ∧
      decodeFrame 0x02 [0x23, 0, 0, 0, 48] = some (.lineLimit 2 48) := by decide

/-- REGION_WRITE of entry 3: HOLD, group 1, 1 MiB at 0x12_3450_0000. -/
theorem test_frame_region :
    decodeFrame 0x06 [3, 0x90, 0x00, 0x14, 0x12, 0x34, 0x50, 0x00, 0x00] =
      some (.regionWrite 3 0x9000141234500000) := by decide

theorem test_frame_groups :
    decodeFrame 0x08 [3] = some (.groupOpen 3) ∧ decodeFrame 0x0B [0x0F] = some (.release 0x0F) ∧
      decodeFrame 0x13 [47] = some (.entryPeek 47) ∧ decodeFrame 0x0F [] = some (.unknownCommand 0x0F) ∧
      decodeFrame 0x16 [0] = none := by decide

/-! ## Single commands -/

/-- R47, R191: a posted write that allocates is answered DONE at once. -/
theorem test_write_allocates :
    let t := after (.writeDecision 0) (queued (write 0x40) holding)
    t.upstreamOut = [.response 0 5 .done, .credit 0] ∧ t.ageList = [0] ∧ t.seqCounter = 1 ∧
      t.entries[0].line = 1 ∧ t.entries[0].mask = 0xFF := by decide +kernel

/-- R44: a merge adds its positions and keeps the sequence number. -/
theorem test_write_merges :
    let t := after (.writeDecision 0) (queued (write 0x44) held)
    t.entries[0].mask = 0xFFF ∧ t.entries[0].merges = 1 ∧ t.seqCounter = 1 ∧ t.groups[0].writeCount = 1 := by
  decide +kernel

/-- R66: a full hit answers the held bytes and counts. -/
theorem test_read_full_hit :
    let t := after (.readDecision 0) (queued (read 0x40) held)
    t.upstreamOut = [.response 0 5 (.data (List.replicate 8 0)), .credit 0] ∧ t.counters.fullHits = 1 := by
  decide +kernel

/-- R69, R71: an URGENT read in ASLEEP is READY and starts a wake. -/
theorem test_read_wakes :
    let t := after (.readDecision 0) (queued (read 0x200000) (powered .asleep 0 awake))
    t.reads.map PendingRead.state = [.ready] ∧ t.power.state = .waking ∧ t.power.wakeTimer = some 120 := by
  decide +kernel

/-- R108: a drain that waits opens the group's episode at the newest number. -/
theorem test_drain_enters :
    let t := after (.drainDecision 0) (queued drain held)
    t.drains.map Drain.mark = [0] ∧ t.groups[0].episode = .mark 0 ∧ t.upstreamOut = [.credit 0] := by decide +kernel

/-- R191: the fifth request of a queue is discarded with PROTOCOL and no response. -/
theorem test_arrival_overflow :
    let s := setInitiator 5 { queue := List.replicate 4 (read 0), head := .undecided, tags := 0, credits := 0 } awake
    let t := after (.upstreamRequest { read 0 with initiator := 5 }) s
    t.events = 0x1020 ∧ t.upstreamOut = [] ∧ t.initiators[5].queue.length = 4 := by decide +kernel

/-- R115, R195: a due entry is granted slot 0 and sent with its mask. -/
theorem test_grant_release :
    let s := { held with groups := held.groups.set 0 { held.groups[0] with episode := .mark 0 } }
    let t := after .grant s
    t.downstreamOut = [.wakeRequest, .lineWrite 0 1 0xFF .zero] ∧ t.slots[0] = .busy (.release 0) 0 1 ∧
      t.entries[0].state = .releasing ∧ t.ageList = [] ∧ t.counts.releasing = 1 := by decide +kernel

/-- R18, R103: a completed release frees the entry, and with it the episode ends. -/
theorem test_complete_release :
    let s := busy (.release 0) 1
      { releasing with groups := releasing.groups.set 0 { releasing.groups[0] with episode := .mark 0 } }
    let t := after (.completeOk 0 []) s
    t.entries[0] = .cleared .zero ∧ t.slots[0] = .free ∧ t.groups[0].episode = .absent ∧ t.counts.releasing = 0 := by
  decide +kernel

/-- R20, R162: a release that fails with its retries used up goes FAULTED in slot 0. -/
theorem test_poison_release :
    let s := busy (.release 0) 3
      { releasing with entries := releasing.entries.set 0 { entry .releasing with attempts := 2 } }
    let t := after (.completePoison 0 []) s
    t.entries[0].state = .faulted ∧ t.faults[0] = some { record with cause := .poison } ∧ t.events = 0x1001 ∧
      t.counters.retries = 1 := by decide +kernel

/-- R79: a read that fails at RD_RETRY 0 is answered ERROR MEMORY. -/
theorem test_fail_read :
    let s := busy (.read 0 5) 1
      { awake with reads := [pendingRead .urgent .issued], regs := { awake.regs with rdRetry := 0 } }
    let t := after (.completeFail 0 []) s
    t.upstreamOut = [.response 0 5 (.error .memory)] ∧ t.reads = [] ∧ t.events = 0x1004 := by decide +kernel

/-- R128: a slot times out at RESP_LIMIT ticks and not before. -/
theorem test_slot_timeout :
    let s := busy (.pass passWrite) 1 awake
    (after (.slotTimeout 0) { s with timestamp := 249 }).slots[0] = .busy (.pass passWrite) 0 1 ∧
      (after (.slotTimeout 0) { s with timestamp := 250 }).slots[0] = .quarantined .pass 0 1 ∧
      (after (.slotTimeout 0) { s with timestamp := 250 }).passRetries = [⟨passWrite, 1⟩] := by decide +kernel

/-- R147: WAKE_READY brings AWAKE and counts; R142: SLEEP_ACCEPT counts. -/
theorem test_handshake :
    (after .wakeReady .reset).power.state = .awake ∧ (after .wakeReady .reset).counters.wakes = 1 ∧
      (after .sleepAccept (powered .entering 0 awake)).power.state = .asleep ∧
      (after .sleepDecline (powered .entering 0 awake)).power.state = .awake := by decide +kernel

/-- R144: WAKE_READY in AWAKE raises PROTOCOL; R195: so does an undefined kind. -/
theorem test_stray :
    (after .wakeReady awake).events = 0x1020 ∧ (after (.undefinedDownstreamMessage 3) awake).events = 0x1020 := by
  decide +kernel

/-- R148: attempt 1 is retried, attempt 3 ends in UNAVAILABLE. -/
theorem test_wake_timer :
    let due := fun n => { State.reset with power := { Power.powerOn with attempt := n, wakeTimer := some 0 } }
    (after .wakeTimerExpiry (due 1)).power.attempt = 2 ∧ (after .wakeTimerExpiry (due 1)).events = 0x1008 ∧
      (after .wakeTimerExpiry (due 3)).power.state = .unavailable := by decide +kernel

/-- R141: the countdown's expiry sends SLEEP_REQUEST; R157: so does CYCLE. -/
theorem test_sleep :
    let s := { awake with power := { awake.power with sleepCountdown := some 0 } }
    (after .sleepCountdownExpiry s).downstreamOut = [.wakeRequest, .sleepRequest] ∧
      (after .cycle (framed awake)).power.cycleOwed = true := by decide +kernel

/-- R86, R136: a tick advances the timestamp and the wake timer. -/
theorem test_tick : (after .tick .reset).timestamp = 1 ∧ (after .tick .reset).power.wakeTimer = some 119 := by decide

/-- R153: a boundary makes the staged period current and restarts the countdown in ticks. -/
theorem test_window_boundary :
    let s := { awake with power := { awake.power with staged := 3, current := 2, windowCountdown := some 0 } }
    (after .windowBoundary s).power.current = 3 ∧ (after .windowBoundary s).power.windowCountdown = some 300 := by
  decide +kernel

/-- R95: the age timer expires after AGE_LIMIT times 10 ticks and makes a release request. -/
theorem test_age_timer :
    let s := { held with
      timestamp := 20, groups := held.groups.set 0 { held.groups[0] with ageTimer := some 0, ageLimit := 2 } }
    (after (.ageTimerExpiry 0) s).groups[0].episode = .mark 0 ∧
      (after (.ageTimerExpiry 0) { s with timestamp := 19 }).groups[0].episode = .absent := by decide +kernel

/-- R96. -/
theorem test_quiet_timer :
    let s := { held with
      timestamp := 10, groups := held.groups.set 0 { held.groups[0] with quietTimer := some 0, relValue := 1 } }
    (after (.quietTimerExpiry 0) s).groups[0].episode = .mark 0 := by decide +kernel

/-- R155: OPP at OPP_MARK starts pressure. -/
theorem test_opp :
    (after (.oppChange true) { held with counts := { held.counts with held := 24 } }).pressure = true ∧
      (after (.oppChange true) { held with counts := { held.counts with held := 23 } }).pressure = false := by
  decide +kernel

/-- R72: the deferral limit starts a wake. -/
theorem test_defer_limit :
    let s := { powered .asleep 0 awake with timestamp := 2000, reads := [pendingRead .deferrable .deferred] }
    (after .deferLimitReached s).power.state = .waking ∧
      (after .deferLimitReached { s with timestamp := 1999 }).power.state = .asleep := by decide +kernel

/-- R24, R173: a warm reset counts the lost lines and keeps the bytes; its end starts the reset wake. -/
theorem test_warm_reset :
    let t := after .resetEnd (after .warmReset held)
    t.resetRecord = { cause := .pin, lostLines := 1 } ∧ t.entries[0].state = .free ∧ t.regions[0].valid = true ∧
      t.power.state = .waking ∧ t.downstreamOut = [.wakeRequest] ∧ (after .powerOnReset held).regions[0].valid = false := by
  decide +kernel

/-- R175, R177: a frame starts and ends; an unnamed byte is answered UNKNOWN. -/
theorem test_frames :
    (after .frameStart awake).frame = some .started ∧ (after .frameEnd (framed awake)).frame = none ∧
      response (.unknownCommand 0) awake = some [4] := by decide

/-- R187, R190: the ID register; R187: number 63 names no register. -/
theorem test_read_reg :
    response (.readReg 0) awake = some [0, 0x1B, 0x70, 0x30, 0x01] ∧ response (.readReg 62) awake = some [0, 0, 0, 0, 0] ∧
      response (.readReg 63) awake = some [3, 0, 0, 0, 0] := by decide

/-- R188: the order of the checks. -/
theorem test_write_reg :
    response (.writeReg 5 3) awake = some [0] ∧ response (.writeReg 5 4) awake = some [3] ∧
      response (.writeReg 15 0) awake = some [3] ∧ response (.writeReg 62 0xFFFFFFFF) awake = some [2] := by
  decide +kernel

/-- 9.6, R86, R89: range checks answer BAD_ARG before the state check answers BUSY. -/
theorem test_register_checks :
    response (.tickDiv 20) awake = some [0] ∧ response (.tickDiv 19) held = some [3] ∧
      response (.tickDiv 250) held = some [1] ∧ response (.lineLimit 0 48) held = some [1] ∧
      response (.lineLimit 1 48) held = some [0] ∧ response (.lineLimit 1 49) held = some [3] := by decide +kernel

/-- R119: the marks bound each other. -/
theorem test_marks :
    response (.highMark 24) awake = some [0] ∧ response (.highMark 23) awake = some [3] ∧
      response (.lowMark 39) awake = some [0] ∧ response (.lowMark 40) awake = some [3] ∧
      response (.oppMark 40) awake = some [0] ∧ response (.oppMark 41) awake = some [3] := by decide +kernel

/-- The other registers' ranges (9.6). -/
theorem test_register_ranges :
    response (.fullPolicy 2) awake = some [3] ∧ response (.deferLimit 0x10000) awake = some [3] ∧
      response (.deferCount 0) awake = some [3] ∧ response (.creditLimit 8) awake = some [0] ∧
      response (.respLimit 1024) awake = some [3] ∧ response (.attnEnable 0x2000) awake = some [3] ∧
      response (.relMode 1 1) awake = some [0] ∧ response (.companions 1 16) awake = some [3] := by decide +kernel

/-- R139, R152: what a write of SLEEP_DELAY and of WINDOW_PERIOD starts. -/
theorem test_register_effects :
    (after (.sleepDelay 7) (framed awake)).power.sleepCountdown = some 7 ∧
      (after (.windowPeriod 7) (framed awake)).power.windowCountdown = some 700 ∧
      (after (.ageLimit 3 9) (framed awake)).groups[3].ageLimit = 9 ∧
      (after (.relValue 3 9) (framed awake)).groups[3].relValue = 9 := by decide +kernel

/-- R168, R169: TAKE returns and clears; ACK of an undefined position is refused. -/
theorem test_attention :
    response .take awake = some [0, 0x10, 0x00] ∧ (after .take (framed awake)).events = 0 ∧
      (after (.ack 0x1FFF) (framed awake)).events = 0 ∧ response (.ack 0x2000) awake = some [3] := by decide +kernel

/-- R27, R37, R198: a region reads back as written; index 12 is no entry. -/
theorem test_regions :
    response (.regionRead 11) awake = some [0, 0x01, 0, 12, 0, 0, 0, 0, 0] ∧
      response (.regionRead 12) awake = some [3, 0, 0, 0, 0, 0, 0, 0, 0] ∧
      (after (.regionWrite 11 0x9000141234500000) (framed awake)).regions[11] =
        { valid := true, base := 0x1234500000, sizeLog := 20, policy := .hold 1 false, readClass := .urgent } ∧
      response (.regionWrite 0 0x8100140000000000) held = some [1] := by decide +kernel

/-- R90, R91, R93, R99: the group commands. -/
theorem test_groups :
    (after (.groupOpen 3) (framed awake)).groups[3].state = .holding ∧ response (.groupOpen 4) awake = some [3] ∧
      (after (.groupClose 0) (framed holding)).groups[0].state = .closed ∧ response (.groupReset 0) held = some [2] ∧
      (after (.release 0x0F) (framed held)).groups[0].episode = .mark 0 ∧ response (.release 0x10) held = some [3] := by
  decide +kernel

/-- R151, R156: WAKE and RECOVER by power state. -/
theorem test_power_commands :
    (after .wake (framed (powered .asleep 0 awake))).power.state = .waking ∧
      response .wake (powered .unavailable 3 awake) = some [2] ∧ response .recover awake = some [2] ∧
      (after .recover (framed (powered .unavailable 3 awake))).power.attempt = 1 := by decide +kernel

/-- R22, R23, R163: a retried fault re-enters with a new number; a discarded one is freed and counted. -/
theorem test_faults :
    (after (.faultRetry 0) (framed faulted)).entries[0].state = .held ∧
      (after (.faultRetry 0) (framed faulted)).entries[0].seq = 1 ∧
      (after (.faultDiscard 0) (framed faulted)).counters.discardedLines = 1 ∧
      response (.faultDiscard 47) faulted = some [2] ∧ response (.faultRetry 48) faulted = some [3] := by
  decide +kernel

/-- R164, R181, R180: the first bytes of the three records, and their lengths. -/
theorem test_inspection :
    (response (.faultRead 0) faulted).map (fun bs => (bs.length, bs.take 6)) = some (87, [0, 0, 0, 0, 0, 3]) ∧
      (response (.entryPeek 0) faulted).map (fun bs => (bs.length, bs.take 7)) = some (99, [0, 3, 2, 0, 0, 0, 0]) ∧
      (response .status faulted).map (fun bs => (bs.length, bs.take 3)) = some (76, [0, 0, 0]) := by decide +kernel

/-- R172, R184: CLEAR_COUNTERS is answered OK; CLEAR needs every group IDLE. -/
theorem test_clear :
    response .clearCounters held = some [0] ∧ response .clear holding = some [1] ∧ response .clear awake = some [0] ∧
      (after .clear (framed awake)).resetRecord.cause = .clear := by decide +kernel

/-! ## Witnesses: states and operands that meet the hypotheses of the statements -/

/-- What AtHead asks of initiator 0's queue. -/
theorem atHead_queued (r : Request) {s : State} (h : s.resetPin = .released) : AtHead (queued r s) 0 r :=
  ⟨h, by simp [queued, setInitiator], [], by simp [queued, setInitiator]⟩

/-- What Admitted asks of initiator 0's queue. -/
theorem admitted_queued {r : Request} {s : State} (h : s.resetPin = .released) (hm : malformed r = false)
    (hp : requestPolicy (queued r s) r ≠ .block) : Admitted (queued r s) 0 r :=
  ⟨atHead_queued r h, hm, hp⟩

theorem witness_StepRunsTheFrontCommand : { State.reset with pending := [.tick] }.pending = .tick :: [] := rfl

theorem witness_EveryCommandCompletesAndKeepsTheQueue : State.reset.pending = [] ∧ State.reset.serialIn = [] :=
  ⟨rfl, rfl⟩

theorem witness_WarmResetKeeps :
    held.resetPin = .released ∧ { held with resetPin := .warm }.resetPin ≠ .released ∧
      { held with resetPin := .powerOn }.resetPin ≠ .released := by decide

/-- A part in ASLEEP with entry 0 HELD, entry 1 FAULTED and a TICK waiting. -/
def sample : State :=
  { powered .asleep 0 held with
    pending := [.tick], seqCounter := 2
    entries := held.entries.set 1 { entry .faulted with line := 2, seq := 1, faultSlot := some 0 }
    counts := { held.counts with faulted := 1 }
    faults := held.faults.set 0 (some { record with entry := 1, line := 2 }), faultOrder := [0] }

theorem sample_steps : ∃ t, step sample = .next t := ⟨_, rfl⟩

theorem witness_EveryStepKeepsTheBounds : Bounded sample ∧ ∃ t, step sample = .next t :=
  ⟨⟨by decide +kernel, by decide +kernel, by decide +kernel, by decide +kernel, by decide +kernel,
    by decide +kernel, by decide +kernel, by decide +kernel⟩, sample_steps⟩

theorem sample_store : StoreSound sample where
  lines := by unfold bound; decide +kernel
  numbers := by unfold bound; decide +kernel
  below := by unfold bound; decide +kernel
  masks := by unfold bound; decide +kernel
  cleared := by decide +kernel
  listed := by decide +kernel
  rising := by decide +kernel
  held := by decide +kernel
  releasing := by decide +kernel
  faulted := by decide +kernel
  groups := by decide +kernel

theorem witness_EveryStepKeepsTheStore : StoreSound sample ∧ ∃ t, step sample = .next t := ⟨sample_store, sample_steps⟩

/-- The one fault record of the sample is that of entry 1. -/
theorem sample_records : ∀ k : FaultIx, sample.faults[k] = none ∨
    (k = 0 ∧ sample.faults[k] = some { record with entry := 1, line := 2 }) := by decide +kernel

theorem sample_faults : FaultsSound sample where
  named := by
    intro k f h
    rcases sample_records k with hk | ⟨rfl, hk⟩
    · simp [hk] at h
    · rw [hk] at h
      cases h
      decide +kernel
  recorded := by
    intro e h
    have he : ∀ e : EntryIx, sample.entries[e].state = .faulted → e = 1 := by decide +kernel
    rw [he e h]
    exact ⟨0, { record with entry := 1, line := 2 }, by decide +kernel, by decide +kernel, rfl⟩
  unfaulted := by decide +kernel
  once := by decide +kernel
  ordered := by decide +kernel
  number := by decide +kernel

theorem witness_EveryStepKeepsTheFaultList : FaultsSound sample ∧ ∃ t, step sample = .next t :=
  ⟨sample_faults, sample_steps⟩

theorem sample_groups : GroupsSound sample where
  resting := by unfold quiet; decide +kernel
  holding := by decide +kernel
  closing := by
    have h : ∀ g : GroupIx, sample.groups[g].state ≠ .closing := by decide +kernel
    exact fun g hg => absurd hg (h g)
  owners := by decide +kernel

theorem witness_EveryStepKeepsTheGroups :
    StoreSound sample ∧ GroupsSound sample ∧ ∃ t, step sample = .next t := ⟨sample_store, sample_groups, sample_steps⟩

theorem sample_power : PowerSound sample :=
  ⟨by decide, by decide, by decide, by decide, by decide, by decide, by decide, by decide⟩

theorem witness_EveryStepKeepsThePowerRecord : PowerSound sample ∧ ∃ t, step sample = .next t :=
  ⟨sample_power, sample_steps⟩

/-- Entry 0 RELEASING in slot 0 and entry 1 RELEASING on the retry list, with a GRANT waiting. -/
def owned : State :=
  { busy (.release 0) 1 releasing with
    entries := releasing.entries.set 1 { entry .releasing with line := 2, seq := 1 }, releaseRetries := [1]
    pending := [.grant] }

/-- The one BUSY slot of the state above. -/
theorem owned_slots : ∀ k : TagIx, owned.slots[k] = .free ∨ (k = 0 ∧ owned.slots[k] = .busy (.release 0) 0 1) := by
  decide +kernel

theorem owned_busy {k : TagIx} {e : EntryIx} {a : Timestamp} {n : Nat} (h : owned.slots[k] = .busy (.release e) a n) :
    k = 0 ∧ e = 0 := by
  rcases owned_slots k with hk | ⟨hz, hk⟩
  · rw [hk] at h
    cases h
  · rw [hk] at h
    cases h
    exact ⟨hz, rfl⟩

theorem owned_releases : ReleasesOwned owned where
  inFlight := by
    intro k e a n h
    rw [(owned_busy h).2]
    decide +kernel
  once := fun j k e a b m n h g => (owned_busy h).1.trans (owned_busy g).1.symm
  waiting := by
    intro e he
    rw [List.mem_singleton.1 he]
    exact ⟨by decide +kernel, fun k a n h => absurd (owned_busy h).2 (by decide)⟩
  distinct := by decide
  owner := by
    intro e h
    have he : ∀ e : EntryIx, owned.entries[e].state = .releasing → e = 0 ∨ e = 1 := by decide +kernel
    rcases he e h with rfl | rfl
    · exact .inr ⟨0, 0, 1, by decide +kernel⟩
    · exact .inl (by decide)

theorem witness_EveryStepKeepsTagsUnderPower :
    (PowerSound sample ∧ TagsFollowPower sample ∧ ∃ t, step sample = .next t) ∧
      ReleasesOwned owned ∧ ∃ t, step owned = .next t :=
  ⟨⟨sample_power, ⟨by decide +kernel, by decide +kernel, by decide +kernel⟩, sample_steps⟩, owned_releases, _, rfl⟩

theorem sample_registers : RegistersSound sample where
  tickDiv := by decide
  deferCount := by decide
  rdRetry := by decide
  wrRetry := by decide
  creditLimit := by decide
  respLimit := by decide
  highMark := by decide
  lowMark := by decide
  oppMark := by decide
  wakeLimit := by decide
  lineLimits := by decide +kernel
  attnEnable := by decide
  events := by decide
  regions := by unfold storable; decide +kernel

theorem witness_EveryStepKeepsTheRegisters : RegistersSound sample ∧ ∃ t, step sample = .next t :=
  ⟨sample_registers, sample_steps⟩

theorem witness_EveryStepTakesItsTests :
    PowerSound sample ∧ RegistersSound sample ∧ Bounded sample ∧ GroupsSound sample ∧ TestsTaken sample ∧
      ∃ t, step sample = .next t := by
  refine ⟨sample_power, sample_registers, witness_EveryStepKeepsTheBounds.1, sample_groups,
    ⟨by decide +kernel, by decide +kernel, ?_, by decide +kernel⟩, sample_steps⟩
  have h : ∀ i : InitIx, sample.initiators[i].queue = [] := by decide +kernel
  exact fun i r rest c hq => absurd ((h i).symm.trans hq) (by simp)

theorem witness_EntriesFollowTheTransitionSummary :
    (∃ t, exec .tick held = .next t) ∧ bound held.entries[0] ∧ bound (after .tick held).entries[0] := by
  refine ⟨⟨_, rfl⟩, ?_, ?_⟩ <;> unfold bound <;> decide +kernel

theorem witness_PowerFollowsItsTransitions :
    PowerSound sample ∧ (∃ t, exec .wake sample = .next t) ∧
      (after .recover (framed (powered .unavailable 3 awake))).power.state = .waking := by
  exact ⟨sample_power, ⟨_, rfl⟩, by decide +kernel⟩

theorem witness_LineRequestsOnlyAtGrants :
    ((after .grant { held with pressure := true }).downstreamOut.filter isLineRequest).length = 1 := by decide +kernel

/-- Each clause of NothingWhereNotDue has a state in which its event is not due. -/
theorem witness_NothingWhereNotDue :
    { held with resetPin := .warm }.resetPin ≠ .released ∧ held.initiators[0].queue = [] ∧
      (queued (read 0) held).initiators[0].queue = read 0 :: [] ∧ (read 0).kind ≠ 1 ∧ (write 0).kind ≠ 0 ∧
      drain.kind ≠ 0 ∧ deferLimitMet held = false ∧ held.slots[0] = .free ∧ sleepDue held = false ∧
      wakeTimerDue held = false ∧ held.power.windowCountdown ≠ some 0 ∧ held.groups[1].state ≠ .holding ∧
      ranFor held held.groups[0].ageTimer held.groups[0].ageLimit = false ∧ takesCommand held = false ∧
      frameOf .take ≠ none ∧ (2#3) ≠ 3 := by decide +kernel

/-- The last line is the drain's: group 0 holds a covered entry, and group 1, HOLDING too, holds none. -/
theorem witness_ReleaseRequestMarks :
    State.reset.seqCounter = 0 ∧ active held 1 = false ∧ newest held = some 0 ∧ active held 0 = true ∧
      reached held 0 = [0] ∧ held.entries[0].state = .held ∧ held.entries[0].seq ≤ 0 ∧
      let both := setGroup 1 { held.groups[1] with state := .holding } held
      newest both = some 0 ∧ reached both 0 = [0] ∧ reached both 1 = [1] ∧ both.groups[1].state = .holding ∧
        both.entries[0].group = 0 ∧ ∀ e : EntryIx, both.entries[e].group = 1 → both.entries[e].state = .free := by
  decide +kernel

/-- R100, R108: a drain that names a group that holds nothing opens and ends that group's episode at once. -/
theorem test_drain_of_an_empty_group :
    let both := setGroup 1 { held.groups[1] with state := .holding, writeCount := 3 } held
    let t := after (.drainDecision 0) (queued { drain with groups := 3 } both)
    t.groups[0].episode = .mark 0 ∧ t.groups[1].episode = .absent ∧ t.groups[1].writeCount = 0 ∧
      t.drains.map Drain.mark = [0] := by decide +kernel

theorem witness_EpisodesEndAndDrainsRetire :
    let marked := fun s : State => setGroup 0 { s.groups[0] with episode := .mark 0 } s
    held.groups[0].episode = .absent ∧ (marked held).groups[0].episode = .mark 0 ∧
      (marked held).entries[0].state = .held ∧ (marked held).entries[0].seq ≤ 0 ∧
      (∀ e : EntryIx, (marked faulted).entries[e].state ≠ .held ∧ (marked faulted).entries[e].state ≠ .releasing) ∧
      (marked faulted).groups[0].state = .holding ∧
      (setGroup 0 { faulted.groups[0] with state := .closing, episode := .mark 0 } faulted).groups[0].state = .closing := by
  decide +kernel

theorem witness_TriggersOfAGroup :
    held.groups[1].state ≠ .holding ∧ held.groups[0].state = .holding ∧ held.counts.groupHeld[(0 : GroupIx)] = 1 ∧
      (setGroup 0 { held.groups[0] with relMode := .count, relValue := 1, lineLimit := 1 } held).groups[0].relMode =
        .count := by decide +kernel

theorem witness_MatchingRegion :
    (matchingRegion holding 0xFFFFF).isSome = true ∧ (matchingRegion holding 0x100000).isSome = true ∧
      matchingRegion holding 0x200000 = none := by decide +kernel

theorem witness_Classification : matchingRegion holding 0 = some holding.regions[0] := by decide +kernel

theorem witness_RegionsHoldWholeLines :
    RegistersSound sample ∧ sample.regions[0].valid = true ∧ lineOf 0x40 = lineOf 0x7F := by
  exact ⟨sample_registers, by decide +kernel, by decide⟩

theorem witness_LookupAndLineOrder : StoreSound sample ∧ lookup sample 1 = some 0 ∧ lookup sample 3 = none :=
  ⟨sample_store, by decide +kernel, by decide +kernel⟩

/-- A queue of 3 and a queue of 4, an outstanding tag, initiators 5 and 6. -/
theorem witness_ArrivalQueuedOrDiscarded :
    let s := setInitiator 5 { queue := [read 0, read 0, read 0], head := .undecided, tags := 0x20, credits := 1 } awake
    s.resetPin = .released ∧ (5#3).toNat = (5 : InitIx).val ∧ s.initiators[5].queue.length = 3 ∧
      s.initiators[5].tags.getLsbD 5 = true ∧ s.initiators[5].tags.getLsbD 6 = false ∧ 6 ≤ (6#3).toNat := by
  decide +kernel

theorem witness_RefusedAtTheHead :
    (AtHead (queued { read 0x39 with length := 8 } holding) 0 { read 0x39 with length := 8 } ∧
      malformed { read 0x39 with length := 8 } = true) ∧
    (AtHead (queued (write 0x100000) holding) 0 (write 0x100000) ∧ malformed (write 0x100000) = false ∧
      requestPolicy (queued (write 0x100000) holding) (write 0x100000) = .block) :=
  ⟨⟨atHead_queued _ rfl, by decide⟩, atHead_queued _ rfl, by decide, by decide +kernel⟩

theorem writeAdmitted_queued {r : Request} {s : State} (h : s.resetPin = .released) (hm : malformed r = false)
    (hp : requestPolicy (queued r s) r ≠ .block) (hw : isWrite r = true)
    (hr : lineHasRead (queued r s) (requestLine r) = false)
    (hl : lineHasPass (queued r s) (requestLine r) = false) : WriteAdmitted (queued r s) 0 r :=
  ⟨admitted_queued h hm hp, hw, hr, hl⟩

theorem readAdmitted_queued {r : Request} {s : State} (h : s.resetPin = .released) (hm : malformed r = false)
    (hp : requestPolicy (queued r s) r ≠ .block) (hw : isRead r = true)
    (hl : lineHasPass (queued r s) (requestLine r) = false) : ReadAdmitted (queued r s) 0 r :=
  ⟨admitted_queued h hm hp, hw, hl⟩

theorem witness_FaultedLineRefused :
    WriteAdmitted (queued (write 0x40) faulted) 0 (write 0x40) ∧
    ReadAdmitted (queued (read 0x40) faulted) 0 (read 0x40) ∧
    lookup (queued (write 0x40) faulted) (requestLine (write 0x40)) = some 0 ∧ faulted.entries[0].state = .faulted :=
  ⟨writeAdmitted_queued rfl (by decide) (by decide +kernel) rfl (by decide +kernel) (by decide +kernel),
    readAdmitted_queued rfl (by decide) (by decide +kernel) rfl (by decide +kernel), by decide +kernel,
    by decide +kernel⟩

/-- A posted write, and a durable one that joins as the first waiter. -/
theorem witness_WriteMerges :
    WriteAdmitted (queued (write 0x40) held) 0 (write 0x40) ∧
    WriteAdmitted (queued (durable 0x40) held) 0 (durable 0x40) ∧
    lookup held (requestLine (write 0x40)) = some 0 ∧ held.entries[0].state = .held ∧
    requestDurable held (write 0x40) = false ∧ requestDurable held (durable 0x40) = true ∧
    held.power.state ≠ .unavailable ∧ held.entries[0].waiters.length < 3 :=
  ⟨writeAdmitted_queued rfl (by decide) (by decide +kernel) rfl (by decide +kernel) (by decide +kernel),
    writeAdmitted_queued rfl (by decide) (by decide +kernel) rfl (by decide +kernel) (by decide +kernel),
    by decide +kernel⟩

/-- The write misses in group 0's region of the state that holds. -/
theorem writeMisses_holding : WriteMisses (queued (write 0x40) holding) 0 (write 0x40) :=
  ⟨writeAdmitted_queued rfl (by decide) (by decide +kernel) rfl (by decide +kernel) (by decide +kernel),
    by decide +kernel⟩

theorem witness_WriteAllocates :
    WriteMisses (queued (write 0x40) holding) 0 (write 0x40) ∧ Holds (queued (write 0x40) holding) (write 0x40) 0 ∧
    holding.seqCounter ≠ BitVec.allOnes 48 ∧ LowestFree (queued (write 0x40) holding) 0 :=
  ⟨writeMisses_holding, ⟨⟨false, by decide +kernel⟩, by decide +kernel⟩, by decide,
    by decide +kernel, fun f hf => absurd hf (Fin.not_lt_zero f)⟩

/-- A full store: the sequence counter at its top value. -/
def exhausted (s : State) : State := { s with seqCounter := BitVec.allOnes 48 }

/-- Entry 0 HELD with three durable waiters. -/
def crowded : State :=
  setEntry 0 { entry .held with waiters := List.replicate 3 { initiator := 1, tag := 0 }, expedite := true } held

/-- A pending read of line 1. -/
def reading : State := { held with reads := [pendingRead .urgent .ready] }

/-- A pass-through write of line 1 that awaits its retry. -/
def retrying : State := { holding with passRetries := [⟨passWrite, 1⟩] }

/-- A full pending read list. -/
def crammed : State := { holding with reads := List.replicate 12 (pendingRead .urgent .ready) }

/-- A read or a pass-through write of the line is outstanding. -/
theorem witness_HeadsThatWait_line :
    (Admitted (queued (write 0x40) reading) 0 (write 0x40) ∧
      lineHasRead (queued (write 0x40) reading) (requestLine (write 0x40)) = true) ∧
    (Admitted (queued (write 0x40) retrying) 0 (write 0x40) ∧
      lineHasRead (queued (write 0x40) retrying) (requestLine (write 0x40)) = false ∧
      lineHasPass (queued (write 0x40) retrying) (requestLine (write 0x40)) = true) ∧
    (Admitted (queued (read 0x40) retrying) 0 (read 0x40) ∧
      lineHasPass (queued (read 0x40) retrying) (requestLine (read 0x40)) = true) :=
  ⟨⟨admitted_queued rfl (by decide) (by decide +kernel), by decide +kernel⟩,
    ⟨admitted_queued rfl (by decide) (by decide +kernel), by decide +kernel⟩,
    admitted_queued rfl (by decide) (by decide +kernel), by decide +kernel⟩

/-- The line's entry is RELEASING, or HELD with a full waiters list. -/
theorem witness_HeadsThatWait_entry :
    (WriteAdmitted (queued (write 0x40) releasing) 0 (write 0x40) ∧
      lookup (queued (write 0x40) releasing) (requestLine (write 0x40)) = some 0 ∧
      (queued (write 0x40) releasing).entries[0].state = .releasing) ∧
    (WriteAdmitted (queued (durable 0x40) crowded) 0 (durable 0x40) ∧
      lookup (queued (durable 0x40) crowded) (requestLine (durable 0x40)) = some 0 ∧
      (queued (durable 0x40) crowded).entries[0].state = .held ∧
      requestDurable (queued (durable 0x40) crowded) (durable 0x40) = true ∧
      (queued (durable 0x40) crowded).power.state ≠ .unavailable ∧
      3 ≤ (queued (durable 0x40) crowded).entries[0].waiters.length) :=
  ⟨⟨writeAdmitted_queued rfl (by decide) (by decide +kernel) rfl (by decide +kernel) (by decide +kernel),
      by decide +kernel⟩,
    writeAdmitted_queued rfl (by decide) (by decide +kernel) rfl (by decide +kernel) (by decide +kernel),
    by decide +kernel⟩

/-- An allocation that fails under STALL, and a full pending read list. -/
theorem witness_HeadsThatWait_room :
    (WriteMisses (queued (write 0x40) (exhausted holding)) 0 (write 0x40) ∧
      Holds (queued (write 0x40) (exhausted holding)) (write 0x40) 0 ∧
      AllocationFails (queued (write 0x40) (exhausted holding)) ∧
      (queued (write 0x40) (exhausted holding)).power.state ≠ .unavailable ∧
      (queued (write 0x40) (exhausted holding)).regs.fullPolicy = .stall) ∧
    (ReadAdmitted (queued (read 0x200000) crammed) 0 (read 0x200000) ∧
      lookup (queued (read 0x200000) crammed) (requestLine (read 0x200000)) = none ∧
      (queued (read 0x200000) crammed).power.state ≠ .unavailable ∧
      12 ≤ (queued (read 0x200000) crammed).reads.length) :=
  ⟨⟨⟨writeAdmitted_queued rfl (by decide) (by decide +kernel) rfl (by decide +kernel) (by decide +kernel),
      by decide +kernel⟩, ⟨⟨false, by decide +kernel⟩, by decide +kernel⟩, .inl rfl, by decide, rfl⟩,
    readAdmitted_queued rfl (by decide) (by decide +kernel) rfl (by decide +kernel), by decide +kernel⟩

/-- FULL_POLICY at THROUGH with the sequence counter at its top value. -/
def through : State := { exhausted holding with regs := { holding.regs with fullPolicy := .through } }

theorem witness_WritePassesThrough :
    (WriteMisses (queued (write 0x200000) holding) 0 (write 0x200000) ∧
      (queued (write 0x200000) holding).power.state ≠ .unavailable ∧
      ∀ g : GroupIx, ¬Holds (queued (write 0x200000) holding) (write 0x200000) g) ∧
    (WriteMisses (queued (write 0x40) through) 0 (write 0x40) ∧
      (queued (write 0x40) through).power.state ≠ .unavailable ∧
      Holds (queued (write 0x40) through) (write 0x40) 0 ∧ AllocationFails (queued (write 0x40) through) ∧
      (queued (write 0x40) through).regs.fullPolicy = .through) := by
  refine ⟨⟨⟨writeAdmitted_queued rfl (by decide) (by decide +kernel) rfl (by decide +kernel) (by decide +kernel),
    by decide +kernel⟩, by decide, ?_⟩, ⟨writeAdmitted_queued rfl (by decide) (by decide +kernel) rfl
      (by decide +kernel) (by decide +kernel), by decide +kernel⟩, by decide,
    ⟨⟨false, by decide +kernel⟩, by decide +kernel⟩, .inl rfl, rfl⟩
  rintro g ⟨⟨d, hd⟩, -⟩
  have h : requestPolicy (queued (write 0x200000) holding) (write 0x200000) = .pass := by decide +kernel
  rw [h] at hd
  cases hd

/-- In UNAVAILABLE: a durable write of a HELD line, a durable write that misses, a read that misses and a drain. -/
theorem witness_UnavailableRefusals :
    let s := powered .unavailable 3 held
    s.power.state = .unavailable ∧
    (WriteAdmitted (queued (durable 0x40) s) 0 (durable 0x40) ∧ requestDurable s (durable 0x40) = true) ∧
    (WriteAdmitted (queued (durable 0x80) s) 0 (durable 0x80) ∧ lookup s (requestLine (durable 0x80)) = none) ∧
    (ReadAdmitted (queued (read 0x80) s) 0 (read 0x80) ∧ lookup s (requestLine (read 0x80)) = none) ∧
    AtHead (queued drain s) 0 drain ∧ malformed drain = false ∧ newest s = some 0 ∧ drainHeldUp s 1 0 = true :=
  ⟨rfl,
    ⟨writeAdmitted_queued rfl (by decide) (by decide +kernel) rfl (by decide +kernel) (by decide +kernel),
      by decide +kernel⟩,
    ⟨writeAdmitted_queued rfl (by decide) (by decide +kernel) rfl (by decide +kernel) (by decide +kernel),
      by decide +kernel⟩,
    ⟨readAdmitted_queued rfl (by decide) (by decide +kernel) rfl (by decide +kernel), by decide +kernel⟩,
    atHead_queued _ rfl, by decide, by decide +kernel, by decide +kernel⟩

theorem witness_FullHitAnswered :
    ReadAdmitted (queued (read 0x40) held) 0 (read 0x40) ∧ lookup held (requestLine (read 0x40)) = some 0 ∧
    held.entries[0].state = .held ∧ requestMask (read 0x40) = held.entries[0].mask :=
  ⟨readAdmitted_queued rfl (by decide) (by decide +kernel) rfl (by decide +kernel), by decide +kernel⟩

/-- Eleven pending reads of another line. -/
def reading11 : State :=
  { held with reads := List.replicate 11 { pendingRead .urgent .ready with address := 0x200000 } }

/-- A read that hits in part, with the list one short of full. -/
theorem witness_ReadEntersTheList :
    ReadAdmitted (queued (read 0x44) reading11) 0 (read 0x44) ∧ NeedsMemory (queued (read 0x44) reading11) (read 0x44) ∧
    (queued (read 0x44) reading11).power.state ≠ .unavailable ∧ (queued (read 0x44) reading11).reads.length < 12 := by
  refine ⟨readAdmitted_queued rfl (by decide) (by decide +kernel) rfl (by decide +kernel), ?_, by decide +kernel⟩
  have h : ∀ e : EntryIx, (queued (read 0x44) reading11).entries[e].state ≠ .faulted ∧
      covers (queued (read 0x44) reading11).entries[e].mask (requestMask (read 0x44)) = false := by decide +kernel
  exact fun e _ => h e

/-- A drain list of n records. -/
def draining (n : Nat) (s : State) : State := queued drain { s with drains := List.replicate n drainRecord }

/-- A drain with no mark, of a FAULTED entry, and of a HELD entry with 3 and with 4 records in the list. -/
theorem witness_DrainDecided :
    isDrain drain = true ∧ malformed drain = false ∧ drain.groups ≠ 0 ∧
    (AtHead (draining 0 holding) 0 drain ∧ (draining 0 holding).seqCounter = 0) ∧
    (AtHead (draining 0 faulted) 0 drain ∧ (draining 0 faulted).seqCounter = 0 + 1 ∧
      (draining 0 faulted).entries[0].state = .faulted ∧
      ∀ e : EntryIx, (draining 0 faulted).entries[e].state ≠ .held ∧
        (draining 0 faulted).entries[e].state ≠ .releasing) ∧
    (AtHead (draining 3 held) 0 drain ∧ (draining 3 held).seqCounter = 0 + 1 ∧
      (draining 3 held).entries[0].state = .held ∧ (draining 3 held).entries[0].seq ≤ 0 ∧
      (draining 3 held).power.state ≠ .unavailable ∧ (draining 3 held).drains.length < 4) ∧
    (AtHead (draining 4 held) 0 drain ∧ 4 ≤ (draining 4 held).drains.length) :=
  ⟨rfl, rfl, by decide, ⟨atHead_queued _ rfl, rfl⟩, ⟨atHead_queued _ rfl, by decide +kernel⟩,
    ⟨atHead_queued _ rfl, by decide +kernel⟩, atHead_queued _ rfl, by decide +kernel⟩

/-- The registers of a state whose regions and register values are those of the sample. -/
theorem registers_of_sample {s : State} (hr : s.regs = sample.regs) (he : s.events = sample.events)
    (hg : s.groups = sample.groups) (hx : s.regions = sample.regions) : RegistersSound s := by
  obtain ⟨h1, h2, h3, h4, h5, h6, h7, h8, h9, h10, h11, h12, h13, h14⟩ := sample_registers
  constructor <;> simp only [hr, he, hg, hx] <;> assumption

/-- A read, a pass-through write at its head, a release write and two retries, each presented first. -/
theorem witness_GrantIssues :
    State.reset.power.state ≠ .awake ∧ RegistersSound held ∧ held.power.state = .awake ∧
    held.slots.countP (fun x => x != .free) < held.regs.creditLimit.toNat ∧
    presented reading = some (.read (pendingRead .urgent .ready)) ∧
    presented retrying = some (.passRetry ⟨passWrite, 1⟩) ∧
    presented (passing held) = some (.passNew 0 (write 0x40)) ∧
    presented { releasing with releaseRetries := [0] } = some (.releaseRetry 0) ∧
    presented { held with pressure := true } = some (.releaseNew 0) ∧ presented held = none :=
  ⟨by decide, registers_of_sample rfl rfl rfl rfl, by decide +kernel⟩

/-- A read in flight that ends well; one that fails below RD_RETRY and one that fails at it. -/
theorem witness_ReadAttemptEnds :
    let s := busy (.read 0 5) 1 { awake with reads := [pendingRead .urgent .issued] }
    s.reads.find? (isReadOf 0 5) = some (pendingRead .urgent .issued) ∧ s.resetPin = .released ∧
    s.slots[(0 : TagIx)] = .busy (.read 0 5) 0 1 ∧
    AttemptFails s 0 (.read 0 5) 1 (.completeFail 0 []) .fail (setSlot 0 .free s) ∧
    (pendingRead .urgent .issued).attempts < s.regs.rdRetry.toNat ∧
    s.regs.rdRetry.toNat ≤ { pendingRead .urgent .issued with attempts := 1 }.attempts :=
  ⟨by decide, rfl, by decide +kernel, ⟨rfl, 0, by decide +kernel, .inl ⟨[], rfl, rfl, rfl⟩⟩, by decide, by decide⟩

theorem witness_PassWriteAttemptEnds :
    let s := { busy (.pass passWrite) 1 awake with timestamp := 250 }
    s.resetPin = .released ∧ s.slots[(0 : TagIx)] = .busy (.pass passWrite) 0 1 ∧
    AttemptFails s 0 (.pass passWrite) 1 (.slotTimeout 0) .timeout (setSlot 0 (.quarantined .pass 0 1) s) ∧
    1 - 1 < s.regs.wrRetry.toNat ∧ s.regs.wrRetry.toNat ≤ 3 - 1 :=
  ⟨rfl, by decide +kernel, ⟨rfl, 0, by decide +kernel, .inr (.inr (.inr ⟨rfl, by decide +kernel, rfl, rfl⟩))⟩,
    by decide, by decide⟩

theorem witness_ReleaseCompletes :
    let s := busy (.release 0) 1 releasing
    s.resetPin = .released ∧ s.slots[(0 : TagIx)] = .busy (.release 0) 0 1 ∧ s.entries[0].state = .releasing := by
  decide +kernel

/-- A release attempt that fails below WR_RETRY, at it with a free fault slot, and at it with the fault list full. -/
theorem witness_ReleaseAttemptFails :
    let s := busy (.release 0) 1 releasing
    AttemptFails s 0 (.release 0) 1 (.completePoison 0 []) .poison (setSlot 0 .free s) ∧
    s.entries[0].state = .releasing ∧ s.entries[0].attempts < s.regs.wrRetry.toNat ∧
    s.regs.wrRetry.toNat ≤ { entry .releasing with attempts := 2 }.attempts ∧ s.faultOrder.length < 6 ∧
    s.faults[0] = none ∧ 6 ≤ (haltedList s).faultOrder.length :=
  ⟨⟨rfl, 0, by decide +kernel, .inr (.inl ⟨[], rfl, by decide, rfl⟩)⟩, by decide +kernel⟩

theorem witness_LateAndStrayMessages :
    let s := { awake with slots := awake.slots.set 0 (.quarantined .read 0 1) }
    s.resetPin = .released ∧ s.slots[0] = .quarantined .read 0 1 ∧ s.slots[7] = .free ∧ s.power.state ≠ .entering ∧
    s.power.state ≠ .waking := by decide +kernel

theorem witness_SleepAndWakeRequested :
    let s := { awake with power := { awake.power with sleepCountdown := some 0 } }
    s.resetPin = .released ∧ s.power.state = .awake ∧ s.power.sleepCountdown = some 0 ∧ idleCondition s = true ∧
    takesCommand (framed s) = true ∧ idleCondition (passing s) = false ∧
    (powered .unavailable 3 awake).power.state = .unavailable ∧ (powered .entering 0 awake).power.state ≠ .awake := by
  decide +kernel

theorem witness_HandshakeAnswered :
    (powered .entering 0 held).resetPin = .released ∧ (powered .entering 0 held).power.state = .entering ∧
    State.reset.power.state = .waking := by decide

theorem witness_WakeTimerExpires :
    let s := fun n => { held with power := { Power.powerOn with attempt := n, wakeTimer := some 0 } }
    (s 2).resetPin = .released ∧ (s 2).power.state = .waking ∧ (s 2).power.wakeTimer = some 0 ∧
    (s 2).power.attempt < 3 ∧ 3 ≤ (s 3).power.attempt := by decide

theorem witness_TimeAndTimers :
    let s := { held with
      timestamp := 2000, reads := [pendingRead .deferrable .deferred]
      power := { held.power with windowCountdown := some 0 }
      groups := held.groups.set 0
        { held.groups[0] with ageTimer := some 0, ageLimit := 200, quietTimer := some 0, relValue := 200 } }
    s.resetPin = .released ∧
    s.reads.find? (fun r => r.state == .deferred) = some (pendingRead .deferrable .deferred) ∧
    s.regs.deferLimit.toNat ≤ (s.timestamp - 0).toNat ∧ s.power.windowCountdown = some 0 ∧
    s.groups[0].state = .holding ∧ s.groups[0].ageTimer = some 0 ∧ s.groups[0].ageLimit ≠ 0 ∧
    s.groups[0].ageLimit.toNat * 10 ≤ (s.timestamp - 0).toNat ∧ s.groups[0].quietTimer = some 0 ∧
    s.groups[0].relMode = .quiet := by decide +kernel

theorem witness_FramesAndResponses :
    awake.chipSelectLow = false ∧ (framed awake).chipSelectLow = true ∧ takesCommand (framed awake) = true ∧
    (∀ n : CommandName, commandByte n ≠ 0x07) ∧ Instr.wf .take = true ∧ frameOf .take = some (commandByte .take, []) := by
  refine ⟨rfl, rfl, rfl, ?_, rfl, rfl⟩
  intro n
  cases n <;> decide

/-- The part with a frame in progress and bytes that the host clocks next. -/
def clocking (f : Frame) (bs : List Byte) : State := { awake with chipSelectLow := true, frame := some f, serialIn := bs }

/-- The state after n steps. -/
def afterSteps (n : Nat) (s : State) : State :=
  match steps n s with
  | .next t => t
  | .fault _ | .refused _ => s

/-- READ_REG of register 5 in a phase of its frame, after a number of bytes. -/
def inPhase (p : Phase) (args : List Byte) (bytes : Nat) : Frame :=
  { phase := p, command := some 1, args := args, response := [0, 0, 0, 0, 1], sent := List.replicate bytes 0 }

/-- R175: READ_REG of register 5, byte by byte: the phases, the arguments held so far and the bytes driven out. -/
theorem test_bytes_of_a_frame :
    let s := clocking .started [0x01, 0x05, 0, 0, 0, 0, 0, 0, 0]
    (afterSteps 1 s).frame.map (fun f => (f.phase, f.command, f.args)) = some (.argument, some 1, []) ∧
      (afterSteps 2 s).frame.map (fun f => (f.phase, f.args, f.response)) = some (.turnaround, [5], [0, 0, 0, 0, 1]) ∧
      (afterSteps 3 s).frame.map Frame.phase = some .response ∧ (afterSteps 7 s).frame.map Frame.phase = some .response ∧
      (afterSteps 8 s).frame.map Frame.phase = some .trailing ∧
      (afterSteps 9 s).frame.map Frame.sent = some [0, 0, 0, 0, 0, 0, 0, 1, 0] := by decide +kernel

/-- R175: WRITE_REG byte by byte writes at its last argument byte and not before; a byte of no frame is ignored. -/
theorem test_effect_point :
    let s := clocking .started [0x02, 0x05, 0, 0, 0, 3]
    (afterSteps 5 s).regs.rdRetry = 1 ∧ (afterSteps 6 s).regs.rdRetry = 3 ∧
      afterSteps 1 { awake with serialIn := [0x02] } = awake := by decide +kernel

/-- A frame in each phase, with a byte to clock: the boundary between RESPONSE and TRAILING is its last byte. -/
theorem witness_FramesByteByByte :
    awake.pending = [] ∧ awake.resetPin = .released ∧ awake.frame = none ∧
    State.reset.resetPin = .released ∧ { awake with resetPin := .warm }.resetPin ≠ .released ∧
    (clocking .started [0x01]).frame = some .started ∧ decodeFrame 0x01 [] = none ∧ decodeFrame 0x03 [] = some .take ∧
    (inPhase .argument [] 1).command = some 0x01 ∧ decodeFrame 0x01 ((inPhase .argument [] 1).args ++ [5]) = some (.readReg 5) ∧
    decodeFrame 0x02 ((inPhase .argument [] 1).args ++ [5]) = none ∧ (inPhase .turnaround [5] 2).phase = .turnaround ∧
    (inPhase .response [5] 3).response.drop ((inPhase .response [5] 3).sent.length - ((inPhase .response [5] 3).args.length + 2)) =
      [0, 0, 0, 0, 1] ∧
    (inPhase .response [5] 7).response.drop ((inPhase .response [5] 7).sent.length - ((inPhase .response [5] 7).args.length + 2)) = [1] ∧
    (inPhase .trailing [5] 8).phase = .trailing ∧ (inPhase .turnaround [5] 2).sent.length = (inPhase .turnaround [5] 2).args.length + 1 ∧
    frameOf (.readReg 5) = some (0x01, [5]) ∧
    (clocking .started [0x01, 0x05]).serialIn = 0x01 :: [0x05] ++ [] ∧
    [(0 : Byte), 0, 0, 0, 0, 0, 0].length = 1 + (inPhase .turnaround [5] 2).response.length + 1 := by decide +kernel

/-- A free frame takes the commands of each statement about them; the numbers at the ends of their ranges are tested
above. -/
theorem witness_ReadBack :
    takesCommand (framed faulted) = true ∧ (∀ r : Register, registerNumber r ≠ (63#8).toNat) ∧
    (12#8).toNat = 12 ∧ (11#8).toNat = (11 : RegionIx).val ∧ (5#8).toNat = (5 : FaultIx).val ∧
    (47#8).toNat = (47 : EntryIx).val ∧ (framed faulted).faults[(0 : FaultIx)] = some record ∧
    (framed faulted).faults[(5 : FaultIx)] = none := by
  refine ⟨takesCommand_framed rfl, ?_, by decide +kernel⟩
  intro r
  cases r <;> simp [registerNumber] <;> omega

theorem witness_RegisterWritten :
    takesCommand (framed awake) = true ∧
    frameOf (.writeReg 5 3) = some (commandByte .writeReg, writeArgs 5 3) ∧ registerNumber .rdRetry = (5#8).toNat ∧
    readOnly .rdRetry = false ∧ readOnly .id = true ∧ inRange awake .rdRetry 3 = true ∧ inRange awake .rdRetry 4 = false ∧
    writeBusy held .tickDiv = true ∧ writeBusy held .rdRetry = false := by decide +kernel

theorem witness_RegisterChecksAndEffects :
    awake.regs.fullPolicy = .stall ∧ { awake.regs with fullPolicy := .through }.fullPolicy = .through ∧
    writeBusy held (.ageLimit 0) = true ∧ writeBusy held (.ageLimit 1) = false := by decide +kernel

theorem witness_AttentionServed :
    takesCommand (framed awake) = true ∧ 2 ^ 13 ≤ (0x2000#16).toNat ∧ (0x1FFF#16).toNat < 2 ^ 13 := by decide

/-- Index 12 and an undefined size are refused; region 0 of an active group is BUSY; region 11 is stored. -/
theorem witness_RegionWritten :
    takesCommand (framed held) = true ∧ 12 ≤ (12#8).toNat ∧ regionOf 0x81000B0000000000 = none ∧
    regionOf 0x81000C0000000000 =
      some { valid := true, base := 0, sizeLog := 12, policy := .pass, readClass := .urgent } ∧
    (0x0000000000000000#64).getLsbD 63 = false ∧ (11#8).toNat = (11 : RegionIx).val ∧
    held.regions[0].valid = true ∧ held.regions[0].policy = .hold 0 false ∧ held.groups[0].state = .holding := by
  decide +kernel

/-- Groups 3 and 4; a group in each state; a set of all groups and one that names none. -/
theorem witness_GroupsCommanded :
    takesCommand (framed held) = true ∧ 4 ≤ (4#8).toNat ∧ (3#8).toNat = (3 : GroupIx).val ∧
    held.groups[0].state = .holding ∧ held.groups[1].state = .idle ∧
    (setGroup 1 { held.groups[1] with state := .closed } held).groups[1].state = .closed ∧
    faulted.entries[0].state = .faulted ∧ faulted.entries[0].group = 0 ∧ 16 ≤ (16#8).toNat ∧ (15#8).toNat < 16 := by
  decide +kernel

theorem witness_FaultsServed :
    takesCommand (framed faulted) = true ∧ 48 ≤ (48#8).toNat ∧ (0#8).toNat = (0 : EntryIx).val ∧
    faulted.entries[0].state = .faulted ∧ faulted.entries[0].faultSlot = some 0 ∧ active faulted 0 = true ∧
    faulted.groups[0].state = .holding ∧ faulted.seqCounter ≠ BitVec.allOnes 48 ∧
    (exhausted faulted).seqCounter = BitVec.allOnes 48 ∧ 6 ≤ (haltedList faulted).faultOrder.length ∧
    active (setGroup 0 { faulted.groups[0] with state := .closed } faulted) 0 = false ∧
    held.entries[0].state ≠ .faulted := by decide +kernel

theorem witness_ClearTaken :
    takesCommand (framed awake) = true ∧ clearAllowed (framed awake) = true ∧ clearAllowed (framed held) = false := by
  decide +kernel

end Sys2Proof.Tests
end

