-- ==== Sys2Proof/Proofs/Regions.lean ====
section
/-! PROOFS. Proofs/Regions.lean: which region entry matches an address (R28, R29) and the classification of a request
that no entry matches. -/

namespace Sys2Proof.Proofs

open Sys2Proof Sys2Proof.Machine

/-- R28: the addresses of a region run from its base for its size. -/
theorem contains_eq_true_iff (x : Region) (a : Addr) :
    contains x a = true ↔ x.base.toNat ≤ a.toNat ∧ a.toNat < x.base.toNat + 2 ^ x.sizeLog := by
  simp [contains]

/-- The list that classification searches holds the entries in the order of their indices. -/
theorem regions_toList_eq_ofFn (s : State) : s.regions.toList = List.ofFn fun k : RegionIx => s.regions[k] :=
  List.ext_getElem (by simp) fun i _ _ => by
    simp only [Vector.getElem_toList, List.getElem_ofFn, Fin.getElem_fin]

/-- R29 by entry index: the search answers with an entry's content, which two entries may share, so the index that
is the lowest stands under the existential. -/
theorem matchingRegion_eq_some_iff (s : State) (a : Addr) (x : Region) :
    matchingRegion s a = some x ↔ ∃ k : RegionIx, s.regions[k] = x ∧ x.valid = true ∧ contains x a = true ∧
      ∀ j : RegionIx, j < k → s.regions[j].valid = true → contains s.regions[j] a = false := by
  rw [matchingRegion, regions_toList_eq_ofFn, List.find?_ofFn_eq_some]
  simp only [Bool.and_eq_true, not_and, Bool.not_eq_true]
  constructor
  · rintro ⟨⟨hvalid, hcontains⟩, k, hk, hlower⟩
    exact ⟨k, hk, hvalid, hcontains, hlower⟩
  · rintro ⟨k, hk, hvalid, hcontains, hlower⟩
    exact ⟨⟨hvalid, hcontains⟩, k, hk, hlower⟩

/-- R29: the unmatched addresses, by entry index. -/
theorem matchingRegion_eq_none_iff (s : State) (a : Addr) :
    matchingRegion s a = none ↔
      ∀ k : RegionIx, s.regions[k].valid = true → contains s.regions[k] a = false := by
  rw [matchingRegion, regions_toList_eq_ofFn, List.find?_eq_none]
  simp only [List.forall_mem_ofFn_iff, Bool.and_eq_true, not_and, Bool.not_eq_true]

section Unmatched

variable {s : State} {r : Request}

theorem requestPolicy_of_unmatched (h : matchingRegion s r.address = none) : requestPolicy s r = .pass := by
  simp [requestPolicy, h]

theorem requestClass_of_unmatched (h : matchingRegion s r.address = none) : requestClass s r = .urgent := by
  simp [requestClass, h]

/-- R29, R32: PASS has no durable default, so the request's own attribute alone makes it durable. -/
theorem requestDurable_of_unmatched (h : matchingRegion s r.address = none) :
    requestDurable s r = hasDurable r := by
  simp [requestDurable, requestPolicy_of_unmatched h, policyDurable]

end Unmatched

end Sys2Proof.Proofs

namespace Sys2Proof.Settled

open Sys2Proof Sys2Proof.Machine Sys2Proof.Proofs

/-- Settles O26: the search for the first valid entry that contains the address is read by entry index in both
directions, and the classification of an unmatched request is that of PASS and URGENT. -/
theorem matchingRegion : Obligations.MatchingRegion := by
  intro s r
  refine ⟨fun x => ?_, matchingRegion_eq_none_iff s r.address, fun unmatched => ?_⟩
  · simp only [matchingRegion_eq_some_iff, contains_eq_true_iff, and_assoc]
  · exact ⟨requestPolicy_of_unmatched unmatched, requestClass_of_unmatched unmatched,
      requestDurable_of_unmatched unmatched⟩

end Sys2Proof.Settled
end

/-! PROOFS. Late and stray messages on the downstream port (R130, R131, R144, R195): a completion for a slot that is not
BUSY, a handshake message out of its power state and a message of an undefined kind. -/

namespace Sys2Proof.Proofs

open Sys2Proof Sys2Proof.Machine

/-- A command that acts outside a reset answers the state its operation gives there. -/
theorem next_whileRunning {s t : State} {f : State → State} (hr : s.resetPin = .released) (h : f s = t) :
    (.next (whileRunning f s) : Host.Outcome State Fault Refusal) = .next t := by
  rw [whileRunning, if_pos (by simp [running, hr]), h]

/-! ## Completions for a slot that is not BUSY (R130, R131) -/

section Completion

variable {s : State} {k : TagIx} {bytes : List Byte}

/-- The three completion commands are one operation, told apart by its kind. -/
theorem exec_completion {c : Instr} (hr : s.resetPin = .released)
    (hc : c = .completeOk k bytes ∨ c = .completePoison k bytes ∨ c = .completeFail k bytes) :
    ∃ kind : CompletionKind, exec c s = .next (complete kind k bytes s) := by
  obtain rfl | rfl | rfl := hc
  · exact ⟨.ok, next_whileRunning hr rfl⟩
  · exact ⟨.poison, next_whileRunning hr rfl⟩
  · exact ⟨.fail, next_whileRunning hr rfl⟩

theorem complete_of_quarantined {x : SlotKind} {issued : Timestamp} {attempt : Nat} (kind : CompletionKind)
    (h : s.slots[k] = .quarantined x issued attempt) :
    complete kind k bytes s = settle (raise .lateCompletion (setSlot k .free s)) := by
  simp only [complete, h]

theorem complete_of_free (kind : CompletionKind) (h : s.slots[k] = .free) :
    complete kind k bytes s = raise .protocol s := by
  simp only [complete, h]

end Completion

/-! ## Messages that answer nothing (R144, R195) -/

section Stray

variable {s : State}

theorem exec_sleepAccept_of_not_entering (hr : s.resetPin = .released) (h : s.power.state ≠ .entering) :
    exec .sleepAccept s = .next (raise .protocol s) :=
  next_whileRunning (f := takeSleepAccept) hr (if_neg h)

theorem exec_sleepDecline_of_not_entering (hr : s.resetPin = .released) (h : s.power.state ≠ .entering) :
    exec .sleepDecline s = .next (raise .protocol s) :=
  next_whileRunning (f := takeSleepDecline) hr (if_neg h)

theorem exec_wakeReady_of_not_waking (hr : s.resetPin = .released) (h : s.power.state ≠ .waking) :
    exec .wakeReady s = .next (raise .protocol s) :=
  next_whileRunning (f := takeWakeReady) hr (if_neg h)

theorem exec_undefinedDownstreamMessage_of_undefinedKind {x : BitVec 3} (hr : s.resetPin = .released)
    (h : undefinedKind x = true) : exec (.undefinedDownstreamMessage x) s = .next (raise .protocol s) :=
  next_whileRunning hr (if_pos h)

end Stray

end Sys2Proof.Proofs

namespace Sys2Proof.Settled

open Sys2Proof Sys2Proof.Machine Sys2Proof.Proofs

/-- Settles O47: a completion is decided by the state of its slot, a handshake message by the power state and any other
message by its kind; each of them does no more than the raise of its cause, but for the freed slot of a late completion. -/
theorem lateAndStrayMessages : Obligations.LateAndStrayMessages := by
  intro s hr
  refine ⟨fun k bytes c hc => ?completion, fun h => ?sleep, exec_wakeReady_of_not_waking hr, fun x hx => ?undefined⟩
  case completion =>
    obtain ⟨kind, hexec⟩ := exec_completion hr hc
    rw [hexec]
    exact ⟨fun _ _ _ late => congrArg _ (complete_of_quarantined kind late),
      fun unsolicited => congrArg _ (complete_of_free kind unsolicited)⟩
  case sleep => exact ⟨exec_sleepAccept_of_not_entering hr h, exec_sleepDecline_of_not_entering hr h⟩
  case undefined =>
    have kindUndefined : undefinedKind x = true := by
      obtain rfl | rfl := hx <;> rfl
    exact exec_undefinedDownstreamMessage_of_undefinedKind hr kindUndefined

end Sys2Proof.Settled

/-! PROOFS. CLEAR (R184 to R186), and how the judgement of a management command at its effect point becomes its answer
(R175 to R177). -/

namespace Sys2Proof.Proofs

open Sys2Proof Sys2Proof.Machine

/-! ## The answer of a management command (R175 to R177) -/

section Answer

variable {s : State}

theorem manage_of_takesCommand {judge : State → Answer} (ht : takesCommand s = true) (n : CommandName)
    (args : List Byte) :
    manage n args judge s =
      setFrame (some (answeredAs (commandByte n) args (judge s).status (answerData (dataBytes n) (judge s))))
        (answerState (judge s) s) :=
  if_pos ht

variable {c : Instr} {n : CommandName} {args : List Byte} {judge : State → Answer}

/-- R176, R177: a command whose meaning is the management of its judgement is answered with the status judged. -/
theorem answers_judged (ht : takesCommand s = true) (hframe : frameOf c = some (commandByte n, args))
    (hexec : exec c s = .next (manage n args judge s)) :
    Answers c s (judge s).status (answerData (dataBytes n) (judge s)) (answerState (judge s) s) :=
  ⟨commandByte n, args, hframe, hexec.trans (congrArg _ (manage_of_takesCommand ht n args))⟩

end Answer

/-! ## CLEAR -/

section Clear

variable {s : State}

/-- R184: the part is empty. -/
theorem clearAllowed_iff :
    clearAllowed s = true ↔
      (∀ g : GroupIx, s.groups[g].state = .idle) ∧ (∀ e : EntryIx, s.entries[e].state = .free) ∧
        (∀ k : TagIx, s.slots[k].isBusy = false) ∧ s.reads = [] ∧ s.drains = [] := by
  have noneBusy : s.slots.any Slot.isBusy = false ↔ ∀ k : TagIx, s.slots[k].isBusy = false := by
    simp only [Vector.any_eq_false, Fin.forall_iff, Fin.getElem_fin, Bool.not_eq_true]
  simp only [clearAllowed, Bool.and_eq_true, Bool.not_eq_true', Vector.all_eq_true, beq_iff_eq, List.isEmpty_iff,
    noneBusy, Fin.forall_iff, Fin.getElem_fin, and_assoc]

/-- R153: the countdown that an accepted CLEAR starts, which is stopped for the period 0. -/
theorem windowStart_eq (period : BitVec 16) :
    windowStart period = if period = 0 then none else some (period.toNat * 100) := by
  simp only [windowStart, beq_iff_eq]

theorem answers_clear (ht : takesCommand s = true) :
    Answers .clear s (judgeClear s).status (answerData 0 (judgeClear s)) (answerState (judgeClear s) s) :=
  answers_judged (n := .clear) ht rfl rfl

theorem judgeClear_of_allowed (h : clearAllowed s = true) : judgeClear s = ok (clearPart s) := if_pos h

theorem judgeClear_of_not_allowed (h : ¬clearAllowed s = true) : judgeClear s = denied .busy s := if_neg h

end Clear

end Sys2Proof.Proofs

namespace Sys2Proof.Settled

open Sys2Proof Sys2Proof.Machine Sys2Proof.Proofs

/-- Settles O60: CLEAR is answered as it is judged, and it is judged by R184's conditions alone. The accepted transition
is the model's composition of its parts, once the countdown it starts is read by R153. -/
theorem clearTaken : Obligations.ClearTaken := by
  intro s ht
  have answered := answers_clear ht
  refine ⟨fun occupied => ?busy, fun empty => ?accepted⟩
  case busy =>
    rw [judgeClear_of_not_allowed (mt clearAllowed_iff.mp occupied)] at answered
    exact answered
  case accepted =>
    rw [judgeClear_of_allowed (clearAllowed_iff.mpr empty), clearPart, makeStagedCurrent, windowStart_eq] at answered
    exact answered

end Sys2Proof.Settled

/-! PROOFS. How an invariant follows for every step: it need only be kept by the moves of Laws/Moves.lean, by the pin resets
and by a change of the queue, the serial bytes and the frame record. What a command does while a reset is asserted. -/

namespace Sys2Proof.Proofs

open Sys2Proof Sys2Proof.Machine

/-! ## Tables after one of their places is replaced -/

/-- A table after one place is replaced, read by index. -/
theorem getElem_set_fin {α : Type} {n : Nat} (v : Vector α n) (i j : Fin n) (x : α) :
    (v.set i x)[j] = if j = i then x else v[j] := by
  simp only [Fin.getElem_fin, Vector.getElem_set, Fin.ext_iff, eq_comm (a := j.val)]

theorem getElem_map_fin {α β : Type} {n : Nat} (v : Vector α n) (f : α → β) (j : Fin n) :
    (v.map f)[j] = f v[j] := by
  simp only [Fin.getElem_fin, Vector.getElem_map]

theorem getElem_replicate_fin {α : Type} {n : Nat} (x : α) (j : Fin n) : (Vector.replicate n x)[j] = x := by
  simp only [Fin.getElem_fin, Vector.getElem_replicate]

/-- A table is given by what stands at its places. -/
theorem ext_fin {α : Type} {n : Nat} {v w : Vector α n} (h : ∀ j : Fin n, v[j] = w[j]) : v = w :=
  Vector.ext fun i hi => h ⟨i, hi⟩

/-! ## While a reset is asserted (notes/assumptions/6.md) -/

section UnderReset

variable {s t : State}

theorem running_iff : running s = true ↔ s.resetPin = .released := by simp [running]

theorem running_of_released (h : s.resetPin = .released) : running s = true := running_iff.2 h

theorem whileRunning_of_not_released {f : State → State} (h : s.resetPin ≠ .released) : whileRunning f s = s :=
  if_neg fun hr => h (running_iff.1 hr)

theorem takesCommand_released (h : takesCommand s = true) : s.resetPin = .released := by
  simp only [takesCommand, Bool.and_eq_true] at h
  exact running_iff.1 h.1

theorem atEffectPoint_of_not_takesCommand (h : takesCommand s = false) (b : Byte) (args : List Byte) (n : Nat)
    (judge : State → Answer) : atEffectPoint b args n judge s = s :=
  if_neg (by simp [h])

theorem manage_of_not_takesCommand (h : takesCommand s = false) (n : CommandName) (args : List Byte)
    (judge : State → Answer) : manage n args judge s = s :=
  atEffectPoint_of_not_takesCommand h _ args _ judge

/-- A command that is no reset and not the chip select's does nothing while a reset is asserted. -/
theorem exec_under_reset {c : Instr} (hs : s.resetPin ≠ .released) (hp : c ≠ .powerOnReset) (he : c ≠ .resetEnd)
    (hstart : c ≠ .frameStart) (hend : c ≠ .frameEnd) : exec c s = .next s := by
  have hidle (f : State → State) : (Host.Outcome.next (whileRunning f s) : Host.Outcome State Fault Refusal) =
      .next s := by rw [whileRunning_of_not_released hs]
  have htakes : takesCommand s = false := by
    rcases h : takesCommand s with _ | _
    · rfl
    · exact absurd (takesCommand_released h) hs
  have hquiet (n : CommandName) (args : List Byte) (judge : State → Answer) :
      (Host.Outcome.next (manage n args judge s) : Host.Outcome State Fault Refusal) = .next s := by
    rw [manage_of_not_takesCommand htakes]
  cases c
  case powerOnReset => exact absurd rfl hp
  case resetEnd => exact absurd rfl he
  case frameStart => exact absurd rfl hstart
  case frameEnd => exact absurd rfl hend
  case unknownCommand b =>
    show Host.Outcome.next (if commandOfByte b = none then atEffectPoint b [] 0 (denied .unknown) s else s) = _
    rw [atEffectPoint_of_not_takesCommand htakes, ite_self]
  all_goals
    first
    | exact hidle _
    | exact hquiet _ _ _

end UnderReset

/-! ## An invariant of every step -/

/-- The state with another queue, other serial bytes and another frame record: all that a step changes around its
command. -/
def reframed (q : List Instr) (l : List Byte) (f : Option Frame) (s : State) : State :=
  { s with pending := q, serialIn := l, frame := f }

/-- What every command keeps, and a change of queue, serial bytes and frame record too, every step keeps. -/
theorem step_keeps {P : State → Prop} (hreframed : ∀ q l f s, P s → P (reframed q l f s))
    (hexec : ∀ c s t, P s → exec c s = .next t → P t) {s t : State} (hs : P s) (h : step s = .next t) : P t := by
  rcases step_cases h with ⟨l, f, rfl⟩ | ⟨c, q, l, f, hc⟩
  · exact hreframed s.pending l f s hs
  · exact hexec c _ t (hreframed q l f s hs) hc

/-- A command but the pin resets is the end of one, or a sequence of moves. -/
theorem exec_cases_of_not_reset {c : Instr} {s t : State} (hp : c ≠ .powerOnReset) (hw : c ≠ .warmReset)
    (h : exec c s = .next t) :
    (c = .resetEnd ∧ t = endReset s) ∨ (isReset c = false ∧ Moves (portOf c) 1 (powerMoves c) s t) := by
  rcases hc : isReset c with _ | _
  · exact .inr ⟨rfl, exec_moves hc h⟩
  · cases c <;> cases hc
    · exact absurd rfl hp
    · exact absurd rfl hw
    · cases h
      exact .inl ⟨rfl, rfl⟩

/-- A command is a pin reset, the end of one, or a sequence of moves. -/
theorem exec_cases {c : Instr} {s t : State} (h : exec c s = .next t) :
    t = powerOnReset s ∨ (t = whileRunning warmReset s) ∨ t = endReset s ∨
      (isReset c = false ∧ Moves (portOf c) 1 (powerMoves c) s t) := by
  rcases hc : isReset c with _ | _
  · exact .inr (.inr (.inr ⟨rfl, exec_moves hc h⟩))
  · cases c <;> cases hc <;> cases h
    · exact .inl rfl
    · exact .inr (.inl rfl)
    · exact .inr (.inr (.inl rfl))

/-- What the moves, the pin resets and their end keep, and a change of queue, serial bytes and frame record too, every
step keeps. -/
theorem step_keeps_of_moves {P : State → Prop} (hreframed : ∀ q l f s, P s → P (reframed q l f s))
    (hmove : ∀ b k s t, Move b k s t → P s → P t) (hpower : ∀ s, P (powerOnReset s))
    (hwarm : ∀ s, P s → P (warmReset s)) (hend : ∀ s, P s → P (endReset s)) {s t : State} (hs : P s)
    (h : step s = .next t) : P t := by
  refine step_keeps hreframed (fun c s t hs h => ?_) hs h
  rcases exec_cases h with rfl | rfl | rfl | ⟨-, hm⟩
  · exact hpower s
  · unfold whileRunning
    split
    · exact hwarm s hs
    · exact hs
  · exact hend s hs
  · exact hm.keep (hmove _) hs

end Sys2Proof.Proofs

/-! PROOFS. The register values and the region table (9.6, R26), and the power record (R136): every move keeps them. -/

namespace Sys2Proof.Proofs

open Sys2Proof Sys2Proof.Machine

/-! ## Register values and regions -/

/-- Events that were event causes are so with an event cause more. -/
theorem events_or {a v m : BitVec 16} (ha : a &&& m = 0) (hv : v &&& m = 0) : (a ||| v) &&& m = 0 := by
  rw [BitVec.and_comm, BitVec.and_or_distrib_left, BitVec.and_comm m a, BitVec.and_comm m v, ha, hv]
  rfl

/-- A set of causes within one that holds event causes alone holds event causes alone. -/
theorem events_within {a v m : BitVec 16} (ha : a &&& m = 0) (hv : v &&& ~~~a = 0) : v &&& m = 0 := by
  ext i hi
  have h1 := congrArg (·.getLsbD i) ha
  have h2 := congrArg (·.getLsbD i) hv
  simp [hi] at h1 h2 ⊢
  intro hvi
  exact h1 (h2 hvi)

section Registers

variable {s t : State}

theorem registersSound_of_internal (k : Internal s t) (h : RegistersSound s) : RegistersSound t := by
  obtain ⟨v, hv, he⟩ := k.events
  exact {
    tickDiv := by rw [k.regs]; exact h.tickDiv
    deferCount := by rw [k.regs]; exact h.deferCount
    rdRetry := by rw [k.regs]; exact h.rdRetry
    wrRetry := by rw [k.regs]; exact h.wrRetry
    creditLimit := by rw [k.regs]; exact h.creditLimit
    respLimit := by rw [k.regs]; exact h.respLimit
    highMark := by rw [k.regs]; exact h.highMark
    lowMark := by rw [k.regs]; exact h.lowMark
    oppMark := by rw [k.regs]; exact h.oppMark
    wakeLimit := by rw [k.regs]; exact h.wakeLimit
    lineLimits := fun g => by rw [k.lineLimit]; exact h.lineLimits g
    attnEnable := by rw [k.regs]; exact h.attnEnable
    events := by rw [he]; exact events_or h.events hv
    regions := fun j => by rw [k.regions]; exact h.regions j }

theorem registersSound_setGroup {g : GroupIx} {x : Group}
    (hx : x.lineLimit.toNat ≤ 48 ∨ x.lineLimit = s.groups[g].lineLimit) (h : RegistersSound s) :
    RegistersSound (setGroup g x s) := by
  refine { h with lineLimits := fun j => ?_ }
  rw [setGroup_groups, getElem_set_fin]
  split
  · exact hx.elim id fun e => e ▸ h.lineLimits g
  · exact h.lineLimits j

theorem registersSound_removeRecordOf (e : EntryIx) (h : RegistersSound s) : RegistersSound (removeRecordOf e s) := by
  obtain ⟨v, w, k⟩ := removeRecordOf_internal e s
  exact registersSound_of_internal k { h with }

theorem move_registersSound {b : Port} {k : MoveKind} (m : Move b k s t) (h : RegistersSound s) :
    RegistersSound t := by
  cases m with
  | internal i => exact registersSound_of_internal i h
  | notes c v n d l o x rr f s hv => exact { h with events := events_within h.events hv }
  | group g x s hx => exact registersSound_setGroup hx h
  | register r s hr => exact hr h
  | region x s hx => exact hx h
  | releaseToFree e s he hp =>
    exact { registersSound_of_internal (respondAll_internal s.entries[e].waiters .done s) h with }
  | releaseToFaulted e k c s he hk hp =>
    have h' := registersSound_of_internal (respondAll_internal s.entries[e].waiters (.error .memory) s) h
    exact { h' with events := events_or h'.events (eventValue_isEvent .faultAdded) }
  | retry e s he hg hc => exact { registersSound_removeRecordOf e h with }
  | discard e s he => exact { registersSound_removeRecordOf e h with }
  | refuseWaiters e s =>
    unfold Machine.refuseWaiters
    dsimp only
    split
    · exact { registersSound_of_internal (respondAll_internal s.entries[e].waiters _ s) h with }
    · exact h
  | _ => exact { h with }

theorem storable_powerOn : storable .powerOn := ⟨fun h => absurd h (by decide), fun _ => rfl⟩

theorem registersSound_reset : RegistersSound State.reset where
  tickDiv := by decide
  deferCount := by decide
  rdRetry := by decide
  wrRetry := by decide
  creditLimit := by decide
  respLimit := by decide
  highMark := by decide
  lowMark := by decide
  oppMark := by decide
  wakeLimit := by decide
  lineLimits g := by
    show (Vector.replicate Config.numGroups Group.powerOn)[g].lineLimit.toNat ≤ 48
    rw [getElem_replicate_fin]
    decide
  attnEnable := by decide
  events := by decide
  regions k := by
    show storable (Vector.replicate Config.numRegions Region.powerOn)[k]
    rw [getElem_replicate_fin]
    exact storable_powerOn

theorem registersSound_powerOnReset (s : State) : RegistersSound (powerOnReset s) := { registersSound_reset with }

theorem registersSound_warmReset (h : RegistersSound s) : RegistersSound (warmReset s) :=
  { h with
    lineLimits := fun g => by
      show (s.groups.map warmGroup)[g].lineLimit.toNat ≤ 48
      rw [getElem_map_fin]
      exact h.lineLimits g
    events := registersSound_reset.events }

theorem registersSound_endReset (h : RegistersSound s) : RegistersSound (endReset s) := by
  unfold endReset
  split
  · exact h
  · exact { h with }

end Registers

/-! ## The power record -/

section Power

variable {s t : State}

/-- What PowerSound says of the record outside a reset. -/
structure RunningPowerSound (p : Power) : Prop where
  settled : p.state = .awake ∨ p.state = .entering ∨ p.state = .asleep → p.attempt = 0
  waking : p.state = .waking → 1 ≤ p.attempt ∧ p.attempt ≤ 3
  unavailable : p.state = .unavailable → p.attempt = 3
  timer : p.wakeTimer.isSome = true ↔ p.state = .waking
  noted : p.notedWake = true → p.state = .entering
  owed : p.cycleOwed = true → p.state = .entering
  window : p.windowCountdown.isSome = true ↔ p.current ≠ 0

theorem powerSound_iff_running (hr : s.resetPin = .released) : PowerSound s ↔ RunningPowerSound s.power :=
  ⟨fun h => ⟨h.settled, h.waking, h.unavailable, h.timer hr, h.noted, h.owed, h.window⟩,
    fun h => ⟨h.settled, h.waking, h.unavailable, fun hn => absurd hr hn, fun _ => h.timer, h.noted, h.owed,
      h.window⟩⟩

theorem runningPowerSound_of_moves {p q : Power} (k : PowerMoves p q) (h : RunningPowerSound p) :
    RunningPowerSound q := by
  rcases k with k | k
  · exact {
      settled := by rw [k.state, k.attempt]; exact h.settled
      waking := by rw [k.state, k.attempt]; exact h.waking
      unavailable := by rw [k.state, k.attempt]; exact h.unavailable
      timer := by rw [k.state, k.wakeTimer]; exact h.timer
      noted := fun n => by rw [k.state]; exact (k.noted n).elim h.noted id
      owed := by rw [k.state, k.owed]; exact h.owed
      window := by rw [k.window, k.current]; exact h.window }
  · have asleep_ne {n : Prop} (e : p.state = .entering) : n := by rw [k.asleep] at e; cases e
    exact {
      settled := by simp [k.waking]
      waking := fun _ => by rw [k.attempt]; omega
      unavailable := by simp [k.waking]
      timer := by simp [k.waking, k.wakeTimer]
      noted := fun n => asleep_ne ((k.noted n).elim h.noted id)
      owed := fun n => asleep_ne (h.owed (k.owed ▸ n))
      window := by rw [k.window, k.current]; exact h.window }

theorem runningPowerSound_of_times {p q : Power} (k : PowerTimes p q) (h : RunningPowerSound p) :
    RunningPowerSound q where
  settled := by rw [k.state, k.attempt]; exact h.settled
  waking := by rw [k.state, k.attempt]; exact h.waking
  unavailable := by rw [k.state, k.attempt]; exact h.unavailable
  timer := by rw [k.state, k.wakeTimer]; exact h.timer
  noted := by rw [k.state, k.noted]; exact h.noted
  owed := by rw [k.state, k.owed]; exact h.owed
  window := by
    rcases k.window with w | ⟨w, c⟩
    · exact w
    · rw [w, c]; exact h.window

/-- A record in which no wake is noted and no cycle owed, outside ENTERING. -/
theorem runningPowerSound_change {q : Power} (k : PowerChange s q) (h : RunningPowerSound s.power) :
    RunningPowerSound q := by
  have hnoted (hs : s.power.state ≠ .entering) : s.power.notedWake = false ∧ s.power.cycleOwed = false :=
    ⟨by simpa using mt h.noted hs, by simpa using mt h.owed hs⟩
  have htimer := h.timer
  have hwindow := h.window
  cases k with
  | sleep owed hs hi => exact ⟨by simp [h.settled (.inl hs)], by simp, by simp, by simp [htimer, hs], by simp, by simp,
      hwindow⟩
  | decline hs =>
    exact ⟨by simp [h.settled (.inr (.inl hs))], by simp, by simp, by simp [htimer, hs], by simp, by simp, hwindow⟩
  | ready hs =>
    have hn := hnoted (by simp [hs])
    exact ⟨by simp, by simp, by simp, by simp, by simp [hn], by simp [hn], hwindow⟩
  | lost hs ha =>
    have hn := hnoted (by simp [hs])
    have hle := (h.waking hs).2
    exact ⟨by simp, by simp, fun _ => by show s.power.attempt = 3; omega, by simp, by simp [hn], by simp [hn], hwindow⟩
  | retry hs ha =>
    have hn := hnoted (by simp [hs])
    exact ⟨by simp, fun _ => by show 1 ≤ s.power.attempt + 1 ∧ s.power.attempt + 1 ≤ 3; omega, by simp, by simp,
        by simp [hn], by simp [hn],
      hwindow⟩
  | recover hs =>
    have hn := hnoted (by simp [hs])
    exact ⟨by simp, by simp, by simp, by simp, by simp [hn], by simp [hn], hwindow⟩

/-- What a move does to the power record and the reset inputs: nothing, a wake cause or the idle test, one of the power
state's own transitions, falling asleep, or the countdowns. -/
theorem move_power {b : Port} {k : MoveKind} (m : Move b k s t) :
    t.resetPin = s.resetPin ∧ (PowerMoves s.power t.power ∨ PowerTimes s.power t.power ∨
      (k = .power ∧ (PowerChange s t.power ∨ (s.power.state = .entering ∧
        t.power = { s.power with state := .asleep, notedWake := false, cycleOwed := false })))) := by
  cases m with
  | internal i => exact ⟨i.resetPin, .inl i.power⟩
  | asleep s h => exact ⟨rfl, .inr (.inr ⟨rfl, .inr ⟨h, rfl⟩⟩)⟩
  | power p s h => exact ⟨rfl, .inr (.inr ⟨rfl, .inl h⟩)⟩
  | powerTimes p s h => exact ⟨rfl, .inr (.inl h)⟩
  | releaseToFree e s he hp =>
    have i := respondAll_internal s.entries[e].waiters .done s
    exact ⟨i.resetPin, .inl i.power⟩
  | releaseToFaulted e k c s he hk hp =>
    have i := respondAll_internal s.entries[e].waiters (.error .memory) s
    exact ⟨i.resetPin, .inl i.power⟩
  | retry e s he hg hc =>
    obtain ⟨v, w, i⟩ := removeRecordOf_internal e s
    exact ⟨i.resetPin, .inl i.power⟩
  | discard e s he =>
    obtain ⟨v, w, i⟩ := removeRecordOf_internal e s
    exact ⟨i.resetPin, .inl i.power⟩
  | refuseWaiters e s =>
    unfold Machine.refuseWaiters
    dsimp only
    split
    · have i := respondAll_internal s.entries[e].waiters (.error .unavailable) s
      exact ⟨i.resetPin, .inl i.power⟩
    · exact ⟨rfl, .inl (.refl _)⟩
  | _ => exact ⟨rfl, .inl (.refl _)⟩

theorem move_runningPowerSound {b : Port} {k : MoveKind} (m : Move b k s t) (h : RunningPowerSound s.power) :
    RunningPowerSound t.power := by
  rcases (move_power m).2 with i | i | ⟨-, i | ⟨hs, i⟩⟩
  · exact runningPowerSound_of_moves i h
  · exact runningPowerSound_of_times i h
  · exact runningPowerSound_change i h
  · rw [i]
    exact ⟨by simp [h.settled (.inr (.inl hs))], by simp, by simp, by simp [h.timer, hs], by simp, by simp, h.window⟩

theorem moves_resetPin {b : Port} {n p : Nat} (m : Moves b n p s t) : t.resetPin = s.resetPin :=
  m.keep (P := fun u => u.resetPin = s.resetPin) (fun _ _ _ m h => (move_power m).1.trans h) rfl

/-- Outside a reset every command but the pin resets keeps the power record sound. -/
theorem moves_powerSound {b : Port} {n p : Nat} (m : Moves b n p s t) (hr : s.resetPin = .released)
    (h : PowerSound s) : PowerSound t := by
  rw [powerSound_iff_running ((moves_resetPin m).trans hr)]
  rw [powerSound_iff_running hr] at h
  exact m.keep (P := fun u => RunningPowerSound u.power) (fun _ _ _ m => move_runningPowerSound m) h

theorem powerSound_powerOnReset (s : State) : PowerSound (powerOnReset s) := by
  constructor <;> simp [powerOnReset, inReset, State.reset, Power.powerOn]

theorem powerSound_warmReset (s : State) : PowerSound (warmReset s) := by
  constructor <;> simp [warmReset, inReset, warmPower, Power.powerOn, windowStart_isSome]

theorem powerSound_endReset (h : PowerSound s) : PowerSound (endReset s) := by
  unfold endReset
  split
  · exact h
  · next hr =>
    obtain ⟨hstate, -⟩ := h.resetting fun e => hr (running_of_released e)
    have hnoted : s.power.notedWake = false := by
      simpa using mt h.noted (by simp [hstate])
    have howed : s.power.cycleOwed = false := by
      simpa using mt h.owed (by simp [hstate])
    have hwindow := h.window
    constructor <;> simp [wakeAttempt, hnoted, howed, hwindow]

/-- What the chip select pin does keeps everything that does not speak of it. -/
theorem exec_chipSelect {c : Instr} (hc : c = .frameStart ∨ c = .frameEnd) (h : exec c s = .next t) :
    ∃ x f, t = { s with chipSelectLow := x, frame := f } := by
  rcases hc with rfl | rfl
  · cases h
    unfold chipSelectFalls
    split
    · exact ⟨s.chipSelectLow, s.frame, rfl⟩
    · exact ⟨_, _, rfl⟩
  · cases h
    exact ⟨_, _, rfl⟩

theorem exec_powerSound {c : Instr} (h : PowerSound s) (hx : exec c s = .next t) : PowerSound t := by
  by_cases hr : s.resetPin = .released
  · rcases exec_cases hx with rfl | rfl | rfl | ⟨-, hm⟩
    · exact powerSound_powerOnReset s
    · rw [whileRunning, if_pos (running_of_released hr)]
      exact powerSound_warmReset s
    · exact powerSound_endReset h
    · exact moves_powerSound hm hr h
  · by_cases hp : c = .powerOnReset
    · subst hp; cases hx; exact powerSound_powerOnReset s
    by_cases he : c = .resetEnd
    · subst he; cases hx; exact powerSound_endReset h
    by_cases hf : c = .frameStart ∨ c = .frameEnd
    · obtain ⟨x, f, rfl⟩ := exec_chipSelect hf hx
      exact { h with }
    · have hf := not_or.1 hf
      rw [exec_under_reset hr hp he hf.1 hf.2] at hx
      cases hx
      exact h

end Power

end Sys2Proof.Proofs

namespace Sys2Proof.Settled

open Sys2Proof Sys2Proof.Machine Sys2Proof.Proofs

/-- Settles O12: a register write is one move, which carries the register's own checks, and no other move widens a value. -/
theorem everyStepKeepsTheRegisters : Obligations.EveryStepKeepsTheRegisters := by
  intro s t hs h
  exact step_keeps_of_moves (fun _ _ _ _ h => { h with }) (fun _ _ _ _ m h => move_registersSound m h)
    registersSound_powerOnReset (fun _ h => registersSound_warmReset h) (fun _ h => registersSound_endReset h) hs h

/-- Settles O11: outside a reset by the moves of the power record, under a reset because nothing moves it but the resets. -/
theorem everyStepKeepsThePowerRecord : Obligations.EveryStepKeepsThePowerRecord := by
  intro s t hs h
  exact step_keeps (fun _ _ _ _ h => { h with }) (fun _ _ _ h hx => exec_powerSound h hx) hs h

end Sys2Proof.Settled

/-! PROOFS. What a move does to one entry of the hold store, and what follows for the transition summary of 1.9, the
bounds of queues and lists, and the owners of attempts. -/

namespace Sys2Proof.Proofs

open Sys2Proof Sys2Proof.Machine

/-! ## One entry under a move -/

/-- The record that a move of the given kind gives entry e, with the condition under which it is made. -/
inductive EntryMove (s : State) (e : EntryIx) : MoveKind → Entry → Prop
  | allocate (l : LineAddr) (g : GroupIx) (m : Mask) (b : Line) (ws : List Waiter)
      (he : s.entries[e].state = .free) (hw : ws.length ≤ 1) : EntryMove s e .store (newEntry s e l g m b ws)
  | merge (m : Mask) (b : Line) (ws : List Waiter) (he : s.entries[e].state = .held)
      (hw : ws = [] ∨ s.entries[e].waiters.length + ws.length ≤ 3) :
      EntryMove s e .plain (mergedEntry s.entries[e] m b ws)
  | start (he : s.entries[e].state = .held) :
      EntryMove s e .store { s.entries[e] with state := .releasing, attempts := 0 }
  | free (he : s.entries[e].state = .releasing ∨ s.entries[e].state = .faulted) :
      EntryMove s e .store (.cleared s.entries[e].data)
  | fault (k : FaultIx) (he : s.entries[e].state = .releasing) :
      EntryMove s e .store { s.entries[e] with state := .faulted, waiters := [], faultSlot := some k }
  | back (he : s.entries[e].state = .releasing) :
      EntryMove s e .store { s.entries[e] with state := .held, attempts := 0, lastCause := none }
  | note (n : Nat) (c : Option FailCause) (he : s.entries[e].state = .releasing) :
      EntryMove s e .plain { s.entries[e] with attempts := n, lastCause := c }
  | reenter (q : Seq) (n : Timestamp) (he : s.entries[e].state = .faulted) :
      EntryMove s e .store
        { s.entries[e] with
          state := .held, seq := q, allocTime := n, merges := 0, attempts := 0, lastCause := none, expedite := true,
          waiters := [], faultSlot := none }
  | refuse (he : s.entries[e].state = .held) : EntryMove s e .plain { s.entries[e] with waiters := [] }

section Entries

variable {s t : State} {b : Port} {k : MoveKind}

theorem removeRecordOf_entries (e : EntryIx) (s : State) : (removeRecordOf e s).entries = s.entries := by
  obtain ⟨v, w, i⟩ := removeRecordOf_internal e s
  exact i.entries

/-- A move changes no entry, or one. -/
theorem move_entries (m : Move b k s t) :
    (t.entries = s.entries ∧ k ≠ .store) ∨ ∃ e x, EntryMove s e k x ∧ t.entries = s.entries.set e x := by
  cases m with
  | internal i => exact .inl ⟨i.entries, by decide⟩
  | allocate e l g m b ws s he hl hc hm hw hg => exact .inr ⟨e, _, .allocate l g m b ws he hw, rfl⟩
  | merge e m b ws s he hw => exact .inr ⟨e, _, .merge m b ws he hw, rfl⟩
  | startRelease e s he hp hg => exact .inr ⟨e, _, .start he, rfl⟩
  | releaseToFree e s he hp =>
    exact .inr ⟨e, _, .free (.inl he), congrArg (·.set e (.cleared s.entries[e].data))
      (respondAll_internal s.entries[e].waiters .done s).entries⟩
  | releaseToFaulted e k c s he hk hp =>
    exact .inr ⟨e, _, .fault k he,
      congrArg (·.set e { s.entries[e] with state := .faulted, waiters := [], faultSlot := some k })
        (respondAll_internal s.entries[e].waiters (.error .memory) s).entries⟩
  | releaseToHeld e s he hp => exact .inr ⟨e, _, .back he, rfl⟩
  | noteFailure e n c s he hp => exact .inr ⟨e, _, .note n c he, rfl⟩
  | retry e s he hg hc =>
    refine .inr ⟨e, _, .reenter (removeRecordOf e s).seqCounter (removeRecordOf e s).timestamp he, ?_⟩
    show (removeRecordOf e s).entries.set e _ = _
    rw [removeRecordOf_entries]
  | discard e s he =>
    refine .inr ⟨e, _, .free (.inr he), ?_⟩
    show (removeRecordOf e s).entries.set e (.cleared (removeRecordOf e s).entries[e].data) = _
    rw [removeRecordOf_entries]
  | refuseWaiters e s =>
    unfold Machine.refuseWaiters
    dsimp only
    split
    · next he =>
      exact .inr ⟨e, _, .refuse (by simpa using he), congrArg (·.set e { s.entries[e] with waiters := [] })
        (respondAll_internal s.entries[e].waiters (.error .unavailable) s).entries⟩
    · exact .inl ⟨rfl, by decide⟩
  | _ => exact .inl ⟨rfl, by decide⟩

/-! ## The transition summary (1.9) -/

/-- The line and the group of an entry are kept, and no position leaves its mask. -/
def KeyKept (x y : Entry) : Prop :=
  y.line = x.line ∧ y.group = x.group ∧ ∀ p : Fin 64, x.mask.getLsbD p.val = true → y.mask.getLsbD p.val = true

theorem KeyKept.refl (x : Entry) : KeyKept x x := ⟨rfl, rfl, fun _ => id⟩

theorem KeyKept.trans {x y z : Entry} (h : KeyKept x y) (k : KeyKept y z) : KeyKept x z :=
  ⟨k.1.trans h.1, k.2.1.trans h.2.1, fun p hp => k.2.2 p (h.2.2 p hp)⟩

/-- No transition: the state and the key are kept. -/
def Stays (x y : Entry) : Prop := y.state = x.state ∧ KeyKept x y

/-- At most one transition of the summary. -/
def Follows (x y : Entry) : Prop :=
  entryStep x.state y.state = true ∧ (bound x → bound y → KeyKept x y)

theorem entryStep_refl (a : EntryState) : entryStep a a = true := by cases a <;> rfl

theorem Stays.follows {x y : Entry} (h : Stays x y) : Follows x y :=
  ⟨by rw [h.1]; exact entryStep_refl _, fun _ _ => h.2⟩

theorem Stays.then_follows {x y z : Entry} (h : Stays x y) (k : Follows y z) : Follows x z :=
  ⟨h.1 ▸ k.1, fun hx hz => h.2.trans (k.2 (by rw [bound, h.1]; exact hx) hz)⟩

theorem Follows.then_stays {x y z : Entry} (h : Follows x y) (k : Stays y z) : Follows x z :=
  ⟨k.1 ▸ h.1, fun hx hz => (h.2 hx (by rw [bound, ← k.1]; exact hz)).trans k.2⟩

theorem entryMove_follows {e : EntryIx} {x : Entry} (m : EntryMove s e k x) :
    Follows s.entries[e] x ∧ (k = .plain → Stays s.entries[e] x) := by
  cases m with
  | allocate l g m b ws he hw =>
    exact ⟨⟨by rw [he]; rfl, fun h => absurd he h⟩, fun h => by cases h⟩
  | merge m b ws he hw =>
    have h : Stays s.entries[e] (mergedEntry s.entries[e] m b ws) :=
      ⟨rfl, rfl, rfl, fun p hp => by rw [mergedEntry, BitVec.getLsbD_or, hp, Bool.true_or]⟩
    exact ⟨h.follows, fun _ => h⟩
  | start he => exact ⟨⟨by rw [he]; rfl, fun _ _ => .refl _⟩, fun h => by cases h⟩
  | free he =>
    refine ⟨⟨?_, fun _ h => absurd rfl h⟩, fun h => by cases h⟩
    rcases he with he | he <;> rw [he] <;> rfl
  | fault k he => exact ⟨⟨by rw [he]; rfl, fun _ _ => .refl _⟩, fun h => by cases h⟩
  | back he => exact ⟨⟨by rw [he]; rfl, fun _ _ => .refl _⟩, fun h => by cases h⟩
  | note n c he => exact ⟨Stays.follows ⟨rfl, .refl _⟩, fun _ => ⟨rfl, .refl _⟩⟩
  | reenter q n he => exact ⟨⟨by rw [he]; rfl, fun _ _ => .refl _⟩, fun h => by cases h⟩
  | refuse he => exact ⟨Stays.follows ⟨rfl, .refl _⟩, fun _ => ⟨rfl, .refl _⟩⟩

theorem move_follows (m : Move b k s t) (e : EntryIx) :
    Follows s.entries[e] t.entries[e] ∧ (k ≠ .store → Stays s.entries[e] t.entries[e]) := by
  have same : Stays s.entries[e] s.entries[e] := ⟨rfl, .refl _⟩
  rcases move_entries m with ⟨he, -⟩ | ⟨f, x, hm, he⟩ <;> rw [he]
  · exact ⟨same.follows, fun _ => same⟩
  · rw [getElem_set_fin]
    split
    · next h =>
      subst h
      refine ⟨(entryMove_follows hm).1, fun hk => (entryMove_follows hm).2 ?_⟩
      cases hm <;> first | rfl | exact absurd rfl hk
    · exact ⟨same.follows, fun _ => same⟩

/-- Moves with at most one transition of an entry take every entry along the summary. -/
theorem moves_follow {n p : Nat} (m : Moves b n p s t) (hn : n ≤ 1) (e : EntryIx) :
    Follows s.entries[e] t.entries[e] ∧ (n = 0 → Stays s.entries[e] t.entries[e]) := by
  induction m with
  | done => exact ⟨Stays.follows ⟨rfl, .refl _⟩, fun _ => ⟨rfl, .refl _⟩⟩
  | @more n _ n' _ k s t u h m hk _ ih =>
    obtain ⟨follows, stays⟩ := ih (by omega)
    obtain ⟨mfollows, mstays⟩ := move_follows m e
    cases hkind : k with
    | store =>
      have hn0 : n = 0 := by rw [hkind, MoveKind.stores] at hk; omega
      exact ⟨(stays hn0).then_follows mfollows, fun h0 => by rw [hkind, MoveKind.stores] at hk; omega⟩
    | plain | power =>
      have st := mstays (by simp [hkind])
      refine ⟨follows.then_stays st, fun h0 => ?_⟩
      have h := stays (by omega)
      exact ⟨st.1.trans h.1, h.2.trans st.2⟩

end Entries

/-! ## Queues and lists -/

/-- The bounds of Bounded that every move keeps: all but those of the retry lists. -/
structure QueuesBounded (s : State) : Prop where
  reads : s.reads.length ≤ 12
  drains : s.drains.length ≤ 4
  queues : ∀ i : InitIx, s.initiators[i].queue.length ≤ 4
  credits : ∀ i : InitIx, s.initiators[i].credits + s.initiators[i].queue.length = 4
  heads : ∀ i : InitIx, s.initiators[i].queue = [] → s.initiators[i].head = .undecided
  waiters : ∀ e : EntryIx, s.entries[e].waiters.length ≤ 3

section Queues

variable {s t : State}

theorem queuesBounded_of_internal (k : Internal s t) (h : QueuesBounded s) : QueuesBounded t where
  reads := by rw [k.reads]; exact h.reads
  drains := k.drains.length_le.trans h.drains
  queues i := by rw [k.queue]; exact h.queues i
  credits i := by rw [k.queue, k.credits]; exact h.credits i
  heads i hq := by
    have hu := h.heads i (by rw [← k.queue]; exact hq)
    rcases k.head i with hs | ⟨-, hs⟩
    · rw [hs, hu]
    · exact hs
  waiters e := by rw [k.entries]; exact h.waiters e

/-- A change of one initiator's record that keeps its own bounds. -/
theorem queuesBounded_setInitiator {i : InitIx} {x : Initiator} (hq : x.queue.length ≤ 4)
    (hc : x.credits + x.queue.length = 4) (hh : x.queue = [] → x.head = .undecided) (h : QueuesBounded s) :
    QueuesBounded (setInitiator i x s) where
  reads := h.reads
  drains := h.drains
  queues j := by
    rw [setInitiator_initiators, getElem_set_fin]
    split
    · exact hq
    · exact h.queues j
  credits j := by
    rw [setInitiator_initiators, getElem_set_fin]
    split
    · exact hc
    · exact h.credits j
  heads j := by
    rw [setInitiator_initiators, getElem_set_fin]
    split
    · exact hh
    · exact h.heads j
  waiters := h.waiters

theorem queuesBounded_pop {i : InitIx} (hq : s.initiators[i].queue ≠ []) (h : QueuesBounded s) :
    QueuesBounded (popHead i s) := by
  have hl := List.length_pos_iff.2 hq
  have hc := h.credits i
  refine queuesBounded_of_internal (sendUp_internal _ _) (queuesBounded_setInitiator ?_ ?_ (fun _ => rfl) h)
  all_goals simp only [List.length_tail]; omega

theorem queuesBounded_enqueue {i : InitIx} {r : Request} (hq : s.initiators[i].queue.length < 4)
    (h : QueuesBounded s) : QueuesBounded (enqueue i r s) := by
  have hc := h.credits i
  refine queuesBounded_setInitiator ?_ ?_ (fun hn => ?_) h
  · simp only [List.length_append, List.length_singleton]; omega
  · simp only [List.length_append, List.length_singleton]; omega
  · simp at hn

theorem entryMove_waiters {e : EntryIx} {k : MoveKind} {x : Entry} (m : EntryMove s e k x)
    (h : s.entries[e].waiters.length ≤ 3) : x.waiters.length ≤ 3 := by
  cases m with
  | allocate l g m b ws he hw => exact hw.trans (by decide)
  | merge m b ws he hw =>
    show (s.entries[e].waiters ++ ws).length ≤ 3
    rcases hw with rfl | hw
    · simpa using h
    · simpa using hw
  | start | back | note => exact h
  | _ => exact Nat.zero_le 3

theorem move_waiters {b : Port} {k : MoveKind} (m : Move b k s t) (h : ∀ e : EntryIx, s.entries[e].waiters.length ≤ 3)
    (e : EntryIx) : t.entries[e].waiters.length ≤ 3 := by
  rcases move_entries m with ⟨he, -⟩ | ⟨f, x, hm, he⟩ <;> rw [he]
  · exact h e
  · rw [getElem_set_fin]
    split
    · exact entryMove_waiters hm (h f)
    · exact h e

theorem move_queuesBounded {b : Port} {k : MoveKind} (m : Move b k s t) (h : QueuesBounded s) : QueuesBounded t := by
  have hw := move_waiters m h.waiters
  cases m with
  | internal i => exact queuesBounded_of_internal i h
  | pop i s hq => exact queuesBounded_pop hq h
  | setHead i x s hq => exact queuesBounded_setInitiator (h.queues i) (h.credits i) (fun hn => absurd hn hq) h
  | enqueue i r s hq ht => exact queuesBounded_enqueue hq h
  | reads l s hl => exact { h with reads := hl.elim (·.trans h.reads) id }
  | addDrain d s hd => exact { h with drains := by simp only [List.length_append, List.length_singleton]; omega }
  | releaseToFree e s he hp =>
    exact { queuesBounded_of_internal (respondAll_internal s.entries[e].waiters .done s) h with waiters := hw }
  | releaseToFaulted e k c s he hk hp =>
    exact { queuesBounded_of_internal (respondAll_internal s.entries[e].waiters (.error .memory) s) h with
      waiters := hw }
  | retry e s he hg hc =>
    obtain ⟨v, w, i⟩ := removeRecordOf_internal e s
    exact { queuesBounded_of_internal i { h with } with waiters := hw }
  | discard e s he =>
    obtain ⟨v, w, i⟩ := removeRecordOf_internal e s
    exact { queuesBounded_of_internal i { h with } with waiters := hw }
  | refuseWaiters e s =>
    revert hw
    unfold Machine.refuseWaiters
    dsimp only
    split
    · intro hw
      exact { queuesBounded_of_internal (respondAll_internal s.entries[e].waiters _ s) h with waiters := hw }
    · exact fun _ => h
  | _ => exact { h with waiters := hw }

theorem queuesBounded_reset : QueuesBounded State.reset where
  reads := by decide
  drains := by decide
  queues i := by
    show ((Vector.replicate Config.numInitiators Initiator.empty)[i]).queue.length ≤ 4
    rw [getElem_replicate_fin]; decide
  credits i := by
    show ((Vector.replicate Config.numInitiators Initiator.empty)[i]).credits +
      ((Vector.replicate Config.numInitiators Initiator.empty)[i]).queue.length = 4
    rw [getElem_replicate_fin]; decide
  heads i _ := by
    show ((Vector.replicate Config.numInitiators Initiator.empty)[i]).head = .undecided
    rw [getElem_replicate_fin]; rfl
  waiters e := by
    show ((Vector.replicate Config.numEntries (Entry.cleared .zero))[e]).waiters.length ≤ 3
    rw [getElem_replicate_fin]; decide

theorem queuesBounded_warmReset (s : State) : QueuesBounded (warmReset s) :=
  { queuesBounded_reset with
    waiters := fun e => by
      show (s.entries.map fun x => Entry.cleared x.data)[e].waiters.length ≤ 3
      rw [getElem_map_fin]
      exact Nat.zero_le 3 }

theorem endReset_cases (s : State) : endReset s = s ∨
    (s.resetPin ≠ .released ∧ endReset s = wakeAttempt 1 { s with resetPin := .released }) := by
  unfold endReset
  split
  · exact .inl rfl
  · next h => exact .inr ⟨fun e => h (running_of_released e), rfl⟩

theorem endReset_entries (s : State) : (endReset s).entries = s.entries := by
  rcases endReset_cases s with e | ⟨-, e⟩ <;> rw [e]
  rfl

theorem queuesBounded_endReset (h : QueuesBounded s) : QueuesBounded (endReset s) := by
  rcases endReset_cases s with e | ⟨-, e⟩ <;> rw [e]
  · exact h
  · exact { h with }

end Queues

end Sys2Proof.Proofs

namespace Sys2Proof.Settled

open Sys2Proof Sys2Proof.Machine Sys2Proof.Proofs

/-- Settles O14: a command makes at most one transition of an entry (Laws/Commands.lean), and its other moves keep every
entry's state and key. -/
theorem entriesFollowTheTransitionSummary : Obligations.EntriesFollowTheTransitionSummary := by
  intro c s t hp hw h e
  rcases exec_cases_of_not_reset hp hw h with ⟨-, rfl⟩ | ⟨-, hm⟩
  · rw [endReset_entries]
    exact Stays.follows ⟨rfl, .refl _⟩
  · exact (moves_follow hm (Nat.le_refl 1) e).1

end Sys2Proof.Settled

/-! PROOFS. The owners of attempts under the end of an attempt and under a grant (Laws/Ports.lean): the bounds of the retry
lists (R127) and the single owner of a release (R113, R124). Tags under the power states, the power transitions, and the
line requests. -/

namespace Sys2Proof.Proofs

open Sys2Proof Sys2Proof.Machine

/-! ## The bounds of the retry lists (R127) -/

/-- R127: each retry list together with the attempts of its kind in flight fits the tag table. -/
structure RetriesBounded (s : State) : Prop where
  passes : s.passRetries.length + s.slots.countP Slot.carriesPass ≤ 8
  releases : s.releaseRetries.length + s.slots.countP Slot.carriesRelease ≤ 8

/-- 1 for an operation of a pass-through write, by its own attempt. -/
def passesOf (op : SlotOp) : Nat := if Slot.carriesPass (.busy op 0 0) then 1 else 0

/-- 1 for an operation of a release. -/
def releasesOf (op : SlotOp) : Nat := if Slot.carriesRelease (.busy op 0 0) then 1 else 0

section Retries

variable {s t : State} {k : TagIx} {op : SlotOp} {a : Timestamp} {n : Nat}

/-- The slots that meet a test, after slot k has taken another content. -/
theorem countP_set_slot (p : Slot → Bool) (v : Vector Slot Config.numTags) (k : TagIx) (x : Slot) :
    (v.set k x).countP p + (if p v[k] then 1 else 0) = v.countP p + if p x then 1 else 0 := by
  have hpos : (if p v[k] then 1 else 0) ≤ v.countP p := Vector.boole_getElem_le_countP k.isLt
  rw [Vector.countP_set]
  simp only [Fin.getElem_fin] at hpos ⊢
  omega

theorem retriesBounded_of_ports (h : PortsKept s t) (hs : RetriesBounded s) : RetriesBounded t :=
  ⟨by rw [h.passRetries, h.passes]; exact hs.passes, by rw [h.releaseRetries, h.releases]; exact hs.releases⟩

/-- A BUSY slot that goes to y, which carries nothing, takes its own attempt off the counts. -/
theorem carries_set (hk : s.slots[k] = .busy op a n) {y : Slot} (hy : y.isBusy = false) :
    (setSlot k y s).slots.countP Slot.carriesPass + passesOf op = s.slots.countP Slot.carriesPass ∧
      (setSlot k y s).slots.countP Slot.carriesRelease + releasesOf op = s.slots.countP Slot.carriesRelease := by
  have hpass := countP_set_slot Slot.carriesPass s.slots k y
  have hrelease := countP_set_slot Slot.carriesRelease s.slots k y
  rw [hk] at hpass hrelease
  have hidle : y.carriesPass = false ∧ y.carriesRelease = false := by
    cases y <;> first | exact ⟨rfl, rfl⟩ | cases hy
  rw [hidle.1] at hpass
  rw [hidle.2] at hrelease
  cases op <;> exact ⟨hpass, hrelease⟩

/-- R127: an attempt that ends moves at most its own operation to its retry list. -/
theorem retriesBounded_handed (hk : s.slots[k] = .busy op a n) {y : Slot} (hy : y.isBusy = false)
    (h : Handed (setSlot k y s) t op) (hs : RetriesBounded s) : RetriesBounded t := by
  obtain ⟨hpasses, hreleases⟩ := hs
  obtain ⟨hpass, hrelease⟩ := carries_set hk hy
  cases h with
  | kept _ h hr => exact retriesBounded_of_ports h ⟨by rw [setSlot_passRetries]; omega,
      by rw [setSlot_releaseRetries]; omega⟩
  | passRetry w x h =>
    refine retriesBounded_of_ports h ⟨?_, ?_⟩
    · have h1 : passesOf (.pass w) = 1 := rfl
      show (s.passRetries ++ [x]).length + _ ≤ 8
      rw [List.length_append, List.length_singleton]
      show s.passRetries.length + 1 + (setSlot k y s).slots.countP Slot.carriesPass ≤ 8
      omega
    · show s.releaseRetries.length + (setSlot k y s).slots.countP Slot.carriesRelease ≤ 8
      omega
  | ends e he h =>
    refine ⟨?_, ?_⟩
    · rw [h.passRetries, h.slots, setSlot_passRetries]; omega
    · rw [h.releaseRetries, h.slots, setSlot_releaseRetries]; omega
  | releaseRetry e he h =>
    refine retriesBounded_of_ports h ⟨?_, ?_⟩
    · show s.passRetries.length + (setSlot k y s).slots.countP Slot.carriesPass ≤ 8
      omega
    · have h1 : releasesOf (.release e) = 1 := rfl
      show (s.releaseRetries ++ [e]).length + _ ≤ 8
      rw [List.length_append, List.length_singleton]
      show s.releaseRetries.length + 1 + (setSlot k y s).slots.countP Slot.carriesRelease ≤ 8
      omega

/-- R127: a granted retry leaves its list for the slot; a first issue is made while its list is empty, and then the
attempts in flight are bounded by the slots there are. -/
theorem retriesBounded_granted (hk : s.slots[k] = .free) (ht : t.slots = s.slots.set k (.busy op a n))
    (h : Granted s t op) (hs : RetriesBounded s) : RetriesBounded t := by
  obtain ⟨hpasses, hreleases⟩ := hs
  have hpass := countP_set_slot Slot.carriesPass s.slots k (.busy op a n)
  have hrelease := countP_set_slot Slot.carriesRelease s.slots k (.busy op a n)
  rw [hk] at hpass hrelease
  rw [← ht] at hpass hrelease
  have maxPass : t.slots.countP Slot.carriesPass ≤ 8 := Vector.countP_le_size
  have maxRelease : t.slots.countP Slot.carriesRelease ≤ 8 := Vector.countP_le_size
  simp only [Slot.carriesPass, Slot.carriesRelease, Bool.false_eq_true, if_false, Nat.add_zero] at hpass hrelease
  cases h with
  | read i u hp hr he =>
    simp only [Bool.false_eq_true, if_false, Nat.add_zero] at hpass hrelease
    exact ⟨by rw [hp]; omega, by rw [hr]; omega⟩
  | passRetry x hp hr he =>
    have hlen := congrArg List.length hp
    simp only [List.length_cons] at hlen
    simp only [Bool.false_eq_true, if_false, if_true, Nat.add_zero] at hpass hrelease
    exact ⟨by omega, by rw [hr]; omega⟩
  | passNew w hn hp hr he =>
    simp only [Bool.false_eq_true, if_false, Nat.add_zero] at hrelease
    exact ⟨by rw [hp]; simpa using maxPass, by rw [hr]; omega⟩
  | releaseRetry e hp hr he =>
    have hlen := congrArg List.length hr
    simp only [List.length_cons] at hlen
    simp only [Bool.false_eq_true, if_false, if_true, Nat.add_zero] at hpass hrelease
    exact ⟨by rw [hp]; omega, by omega⟩
  | releaseNew e hp hn hr hs he =>
    simp only [Bool.false_eq_true, if_false, Nat.add_zero] at hpass
    exact ⟨by rw [hp]; omega, by rw [hr]; simpa using maxRelease⟩

end Retries

/-! ## Who owns a release (R113, R124) -/

section Owners

variable {s t : State} {k : TagIx} {op : SlotOp} {a : Timestamp} {n : Nat}

theorem releasesOwned_of_ports (h : PortsKept s t) (hs : ReleasesOwned s) : ReleasesOwned t where
  inFlight j e b m hj := (h.releasing e).2 (hs.inFlight j e b m ((h.busy _ _ _ _).1 hj))
  once i j e b c m l hi hj := hs.once i j e b c m l ((h.busy _ _ _ _).1 hi) ((h.busy _ _ _ _).1 hj)
  waiting e he := by
    rw [h.releaseRetries] at he
    exact ⟨(h.releasing e).2 (hs.waiting e he).1, fun j b m hj => (hs.waiting e he).2 j b m ((h.busy _ _ _ _).1 hj)⟩
  distinct := by rw [h.releaseRetries]; exact hs.distinct
  owner e he := by
    rw [h.releaseRetries]
    exact (hs.owner e ((h.releasing e).1 he)).imp id fun ⟨j, b, m, hj⟩ => ⟨j, b, m, (h.busy _ _ _ _).2 hj⟩

/-- After BUSY slot k has gone to y, the BUSY slots are those that were but k. -/
theorem busy_after_set {y : Slot} (hy : y.isBusy = false) {j : TagIx} {q : SlotOp} {b : Timestamp} {m : Nat} :
    (setSlot k y s).slots[j] = .busy q b m ↔ j ≠ k ∧ s.slots[j] = .busy q b m := by
  rw [setSlot_slots, getElem_set_fin]
  split
  · next h =>
    subst h
    exact ⟨fun hb => (by rw [hb] at hy; cases hy), fun hb => absurd rfl hb.1⟩
  · next h => exact ⟨fun hb => ⟨h, hb⟩, fun hb => hb.2⟩

/-- The owners once slot k, which carried op, is no longer BUSY, and the release it carried, if any, has ended. -/
theorem releasesOwned_ended (hk : s.slots[k] = .busy op a n) {y : Slot} (hy : y.isBusy = false)
    (hs : ReleasesOwned s) (hslots : t.slots = (setSlot k y s).slots) (hretries : t.releaseRetries = s.releaseRetries)
    (hreleasing : ∀ f : EntryIx, t.entries[f].state = .releasing ↔ op ≠ .release f ∧ s.entries[f].state = .releasing) :
    ReleasesOwned t where
  inFlight j e b m hj := by
    rw [hslots, busy_after_set hy] at hj
    refine (hreleasing e).2 ⟨fun h => ?_, hs.inFlight j e b m hj.2⟩
    subst h
    exact hj.1 (hs.once j k e b a m n hj.2 hk)
  once i j e b c m l hi hj := by
    rw [hslots, busy_after_set hy] at hi hj
    exact hs.once i j e b c m l hi.2 hj.2
  waiting e he := by
    rw [hretries] at he
    obtain ⟨hr, hn⟩ := hs.waiting e he
    refine ⟨(hreleasing e).2 ⟨fun h => ?_, hr⟩, fun j b m hj => ?_⟩
    · subst h
      exact hn k a n hk
    · rw [hslots, busy_after_set hy] at hj
      exact hn j b m hj.2
  distinct := by rw [hretries]; exact hs.distinct
  owner e he := by
    obtain ⟨hne, hr⟩ := (hreleasing e).1 he
    rw [hretries, hslots]
    refine (hs.owner e hr).imp id fun ⟨j, b, m, hj⟩ => ⟨j, b, m, (busy_after_set hy).2 ⟨fun h => ?_, hj⟩⟩
    subst h
    cases hj.symm.trans hk
    exact hne rfl

theorem releasesOwned_handed (hk : s.slots[k] = .busy op a n) {y : Slot} (hy : y.isBusy = false)
    (h : Handed (setSlot k y s) t op) (hs : ReleasesOwned s) : ReleasesOwned t := by
  cases h with
  | kept _ h hr =>
    refine releasesOwned_of_ports h (releasesOwned_ended hk hy hs rfl rfl fun f => ?_)
    refine ⟨fun hf => ⟨fun e => hr f e hf, hf⟩, fun hf => hf.2⟩
  | passRetry w x h =>
    exact releasesOwned_of_ports h (releasesOwned_ended hk hy hs rfl rfl fun f => ⟨fun hf => ⟨by simp, hf⟩,
        fun hf => hf.2⟩)
  | ends e he h =>
    refine releasesOwned_ended hk hy hs h.slots h.releaseRetries fun f => ?_
    rw [h.releasing f, ne_eq, ne_eq, SlotOp.release.injEq, eq_comm]
    rfl
  | releaseRetry e he h =>
    have hfresh : e ∉ s.releaseRetries := fun hm => (hs.waiting e hm).2 k a n hk
    refine releasesOwned_of_ports h ?_
    exact {
      inFlight := fun j f b m hj => hs.inFlight j f b m ((busy_after_set hy).1 hj).2
      once := fun i j f b c m l hi hj => hs.once i j f b c m l ((busy_after_set hy).1 hi).2 ((busy_after_set hy).1 hj).2
      waiting := fun f hf => by
        rcases List.mem_append.1 hf with hf | hf
        · exact ⟨(hs.waiting f hf).1, fun j b m hj => (hs.waiting f hf).2 j b m ((busy_after_set hy).1 hj).2⟩
        · cases List.mem_singleton.1 hf
          refine ⟨he, fun j b m hj => ?_⟩
          obtain ⟨hne, hj⟩ := (busy_after_set hy).1 hj
          exact hne (hs.once j k e b a m n hj hk)
      distinct := List.nodup_append.2 ⟨hs.distinct, by simp, fun f hf g hg => by
        rintro rfl
        cases List.mem_singleton.1 hg
        exact hfresh hf⟩
      owner := fun f hf => by
        rcases hs.owner f hf with ho | ⟨j, b, m, hj⟩
        · exact .inl (List.mem_append_left _ ho)
        · by_cases hjk : j = k
          · subst hjk
            cases hj.symm.trans hk
            exact .inl (List.mem_append_right _ (List.mem_singleton.2 rfl))
          · exact .inr ⟨j, b, m, (busy_after_set hy).2 ⟨hjk, hj⟩⟩ }

/-- After FREE slot k has been filled, the BUSY slots are those that were and k. -/
theorem busy_after_fill (hk : s.slots[k] = .free) (ht : t.slots = s.slots.set k (.busy op a n)) {j : TagIx}
    {q : SlotOp} {b : Timestamp} {m : Nat} :
    t.slots[j] = .busy q b m ↔ (j = k ∧ q = op ∧ b = a ∧ m = n) ∨ s.slots[j] = .busy q b m := by
  rw [ht, getElem_set_fin]
  split
  · next h =>
    subst h
    rw [hk]
    simp [eq_comm]
  · next h => simp [h]

/-- A grant that hands no release on: a slot is filled, and the entries and the retries stay. -/
theorem releasesOwned_filled (hk : s.slots[k] = .free) (ht : t.slots = s.slots.set k (.busy op a n))
    (hop : ∀ e, op ≠ .release e) (hr : t.releaseRetries = s.releaseRetries) (he : t.entries = s.entries)
    (hs : ReleasesOwned s) : ReleasesOwned t := by
  have hbusy {j : TagIx} {e : EntryIx} {b : Timestamp} {m : Nat} :
      t.slots[j] = .busy (.release e) b m ↔ s.slots[j] = .busy (.release e) b m := by
    rw [busy_after_fill hk ht]
    exact or_iff_right fun h => hop e h.2.1.symm
  exact {
    inFlight := fun j e b m hj => by rw [he]; exact hs.inFlight j e b m (hbusy.1 hj)
    once := fun i j e b c m l hi hj => hs.once i j e b c m l (hbusy.1 hi) (hbusy.1 hj)
    waiting := fun e hm => by
      rw [hr] at hm
      rw [he]
      exact ⟨(hs.waiting e hm).1, fun j b m hj => (hs.waiting e hm).2 j b m (hbusy.1 hj)⟩
    distinct := by rw [hr]; exact hs.distinct
    owner := fun e hx => by
      rw [he] at hx
      rw [hr]
      exact (hs.owner e hx).imp id fun ⟨j, b, m, hj⟩ => ⟨j, b, m, hbusy.2 hj⟩ }

/-- A grant of a release: slot k is filled with entry e, which no slot named, the other retries stay, and e is RELEASING. -/
theorem releasesOwned_issued {e : EntryIx} (hk : s.slots[k] = .free)
    (ht : t.slots = s.slots.set k (.busy (.release e) a n))
    (hfree : ∀ (j : TagIx) (b : Timestamp) (m : Nat), s.slots[j] ≠ .busy (.release e) b m)
    (hmem : ∀ f, f ∈ t.releaseRetries ↔ f ≠ e ∧ f ∈ s.releaseRetries) (hnodup : t.releaseRetries.Nodup)
    (hreleasing : ∀ f : EntryIx, t.entries[f].state = .releasing ↔ f = e ∨ s.entries[f].state = .releasing)
    (hs : ReleasesOwned s) : ReleasesOwned t where
  inFlight j f b m hj := by
    rcases (busy_after_fill hk ht).1 hj with ⟨-, hf, -⟩ | hj
    · cases hf
      exact (hreleasing e).2 (.inl rfl)
    · exact (hreleasing f).2 (.inr (hs.inFlight j f b m hj))
  once i j f b c m l hi hj := by
    rcases (busy_after_fill hk ht).1 hi with ⟨hik, hf, -⟩ | hi <;>
      rcases (busy_after_fill hk ht).1 hj with ⟨hjk, hg, -⟩ | hj
    · rw [hik, hjk]
    · cases hf
      exact absurd hj (hfree j c l)
    · cases hg
      exact absurd hi (hfree i b m)
    · exact hs.once i j f b c m l hi hj
  waiting f hf := by
    obtain ⟨hne, hf⟩ := (hmem f).1 hf
    refine ⟨(hreleasing f).2 (.inr (hs.waiting f hf).1), fun j b m hj => ?_⟩
    rcases (busy_after_fill hk ht).1 hj with ⟨-, hg, -⟩ | hj
    · cases hg
      exact hne rfl
    · exact (hs.waiting f hf).2 j b m hj
  distinct := hnodup
  owner f hf := by
    by_cases hfe : f = e
    · subst hfe
      exact .inr ⟨k, a, n, (busy_after_fill hk ht).2 (.inl ⟨rfl, rfl, rfl, rfl⟩)⟩
    · refine (hs.owner f (((hreleasing f).1 hf).resolve_left hfe)).imp (fun h => (hmem f).2 ⟨hfe, h⟩) ?_
      exact fun ⟨j, b, m, hj⟩ => ⟨j, b, m, (busy_after_fill hk ht).2 (.inr hj)⟩

theorem releasesOwned_granted (hk : s.slots[k] = .free) (ht : t.slots = s.slots.set k (.busy op a n))
    (h : Granted s t op) (hs : ReleasesOwned s) : ReleasesOwned t := by
  cases h with
  | read i u hp hr he => exact releasesOwned_filled hk ht (fun _ => nofun) hr he hs
  | passRetry x hp hr he => exact releasesOwned_filled hk ht (fun _ => nofun) hr he hs
  | passNew w hn hp hr he => exact releasesOwned_filled hk ht (fun _ => nofun) hr he hs
  | releaseRetry e hp hr he =>
    have hmem : e ∈ s.releaseRetries := by rw [hr]; exact List.mem_cons_self
    have hnodup := hs.distinct
    rw [hr, List.nodup_cons] at hnodup
    refine releasesOwned_issued hk ht (hs.waiting e hmem).2 (fun f => ?_) hnodup.2 (fun f => ?_) hs
    · rw [hr, List.mem_cons]
      exact ⟨fun hf => ⟨fun hfe => hnodup.1 (hfe ▸ hf), .inr hf⟩, fun hf => hf.2.resolve_left hf.1⟩
    · rw [he]
      exact ⟨.inr, fun hf => hf.elim (fun hfe => hfe ▸ (hs.waiting e hmem).1) id⟩
  | releaseNew e hp hn hr hheld he =>
    refine releasesOwned_issued hk ht (fun j b m hj => ?_) (fun f => by rw [hr, hn]; simp)
        (by rw [hr]; exact .nil) he hs
    have := hs.inFlight j e b m hj
    rw [hheld] at this
    cases this

end Owners

/-! ## Every command at the port -/

section Ports

variable {s t : State}

/-- What holds of the owners and the retry lists stays so when it is kept by what leaves them alone, by the end of an
attempt, by a grant and by the pin resets. -/
theorem exec_keeps_at_ports {P : State → Prop} (hports : ∀ s t, PortsKept s t → P s → P t)
    (hhanded : ∀ s t k op a n y, s.slots[k] = .busy op a n → Slot.isBusy y = false → Handed (setSlot k y s) t op →
      P s → P t)
    (hgranted : ∀ s t (k : TagIx) op a n, s.slots[k] = .free → t.slots = s.slots.set k (.busy op a n) →
      Granted s t op → P s → P t)
    (hpower : ∀ s, P (powerOnReset s)) (hwarm : ∀ s, P (warmReset s)) {c : Instr} (hs : P s)
    (h : exec c s = .next t) : P t := by
  have hcomplete (kind : CompletionKind) (k : TagIx) (bytes : List Byte) :
      P (whileRunning (complete kind k bytes) s) := by
    unfold whileRunning
    split
    · rcases complete_ports kind k bytes s with hp | ⟨op, a, n, hk, hh⟩
      · exact hports _ _ hp hs
      · exact hhanded _ _ k op a n .free hk rfl hh hs
    · exact hs
  have htimeout (k : TagIx) : P (whileRunning (timeoutSlot k) s) := by
    unfold whileRunning
    split
    · rcases timeoutSlot_ports k s with he | ⟨op, a, n, hk, hh⟩
      · rw [he]; exact hs
      · exact hhanded _ _ k op a n _ hk rfl hh hs
    · exact hs
  rcases hc : isReset c with _ | _
  · cases hport : portOf c with
    | idle => exact hports s t (exec_ports hc hport h) hs
    | ends =>
      cases c <;> cases hport <;> cases h
      all_goals first | exact hcomplete _ _ _ | exact htimeout _
    | grants =>
      cases c <;> cases hport
      cases h
      unfold whileRunning
      split
      · rcases arbiterGrant_ports s with he | ⟨k, op, a, n, hk, ht, hg⟩
        · rw [he]; exact hs
        · exact hgranted _ _ k op a n hk ht hg hs
      · exact hs
  · cases c <;> cases hc <;> cases h
    · exact hpower s
    · unfold whileRunning
      split
      · exact hwarm s
      · exact hs
    · rcases endReset_cases s with e | ⟨-, e⟩ <;> rw [e]
      · exact hs
      · exact hports s _ (.of_eq rfl rfl rfl rfl) hs

theorem slots_reset (k : TagIx) : State.reset.slots[k] = .free := getElem_replicate_fin _ k

theorem entries_reset (e : EntryIx) : State.reset.entries[e] = .cleared .zero := getElem_replicate_fin _ e

theorem entries_warmReset (s : State) (e : EntryIx) : (warmReset s).entries[e] = .cleared s.entries[e].data :=
  getElem_map_fin _ _ e

theorem retriesBounded_reset : RetriesBounded State.reset := ⟨by decide, by decide⟩

/-- A part with every slot FREE, every entry FREE and no retry. -/
theorem releasesOwned_of_empty (hs : ∀ k : TagIx, s.slots[k] = .free) (he : ∀ e : EntryIx, s.entries[e].state = .free)
    (hr : s.releaseRetries = []) : ReleasesOwned s where
  inFlight k e a n h := by rw [hs k] at h; cases h
  once j k e a b m n h := by rw [hs j] at h; cases h
  waiting e h := by rw [hr] at h; cases h
  distinct := by rw [hr]; exact .nil
  owner e h := by rw [he e] at h; cases h

theorem releasesOwned_reset : ReleasesOwned State.reset :=
  releasesOwned_of_empty slots_reset (fun e => by rw [entries_reset]; rfl) rfl

theorem exec_retriesBounded {c : Instr} (hs : RetriesBounded s) (h : exec c s = .next t) : RetriesBounded t :=
  exec_keeps_at_ports (fun _ _ => retriesBounded_of_ports)
    (fun _ _ _ _ _ _ _ hk hy hh => retriesBounded_handed hk hy hh)
    (fun _ _ _ _ _ _ hk ht hg => retriesBounded_granted hk ht hg)
    (fun _ => ⟨retriesBounded_reset.passes, retriesBounded_reset.releases⟩)
    (fun _ => ⟨retriesBounded_reset.passes, retriesBounded_reset.releases⟩) hs h

theorem exec_releasesOwned {c : Instr} (hs : ReleasesOwned s) (h : exec c s = .next t) : ReleasesOwned t :=
  exec_keeps_at_ports (fun _ _ => releasesOwned_of_ports)
    (fun _ _ _ _ _ _ _ hk hy hh => releasesOwned_handed hk hy hh)
    (fun _ _ _ _ _ _ hk ht hg => releasesOwned_granted hk ht hg)
    (fun _ => { releasesOwned_reset with })
    (fun s => releasesOwned_of_empty slots_reset (fun e => by rw [entries_warmReset]; rfl) rfl) hs h

theorem bounded_iff : Bounded s ↔ QueuesBounded s ∧ RetriesBounded s :=
  ⟨fun h => ⟨⟨h.reads, h.drains, h.queues, h.credits, h.heads, h.waiters⟩, ⟨h.passRetries, h.releaseRetries⟩⟩,
    fun ⟨h, k⟩ => ⟨h.reads, h.drains, h.queues, h.credits, h.heads, h.waiters, k.passes, k.releases⟩⟩

theorem exec_bounded {c : Instr} (hs : Bounded s) (h : exec c s = .next t) : Bounded t := by
  obtain ⟨hq, hr⟩ := bounded_iff.1 hs
  refine bounded_iff.2 ⟨?_, exec_retriesBounded hr h⟩
  rcases exec_cases h with rfl | rfl | rfl | ⟨-, hm⟩
  · exact { queuesBounded_reset with }
  · unfold whileRunning
    split
    · exact queuesBounded_warmReset s
    · exact hq
  · exact queuesBounded_endReset hq
  · exact hm.keep (fun _ _ _ m => move_queuesBounded m) hq

end Ports

/-! ## Tags under the power states (R53, R116) -/

section Tags

variable {s t : State}

/-- R145: a wake cause leaves AWAKE and ENTERING and does not enter them. -/
theorem powerMoves_state {p q : Power} (h : PowerMoves p q) :
    q.state = p.state ∨ (p.state = .asleep ∧ q.state = .waking) :=
  h.imp (·.state) fun k => ⟨k.asleep, k.waking⟩

/-- Slots and entries that only lose BUSY slots and RELEASING entries, in a power state that allows no more than before. -/
theorem tagsFollowPower_of_less (h : TagsFollowPower s)
    (hbusy : ∀ k : TagIx, s.slots[k].isBusy = false → t.slots[k].isBusy = false)
    (hfree : ∀ k : TagIx, s.slots[k] = .free → t.slots[k] = .free)
    (hreleasing : ∀ e : EntryIx, t.entries[e].state = .releasing → s.entries[e].state = .releasing)
    (hp : t.power.state = s.power.state ∨
      (s.power.state ≠ .awake ∧ s.power.state ≠ .entering ∧ t.power.state ≠ .awake)) : TagsFollowPower t := by
  have hawake : t.power.state ≠ .awake → s.power.state ≠ .awake := fun ht =>
    hp.elim (fun e => e ▸ ht) fun e => e.1
  exact {
    busy := fun ht k => hbusy k (h.busy (hawake ht) k)
    releasing := fun ht e he => h.releasing (hawake ht) e (hreleasing e he)
    free := fun ht hn k => hfree k (h.free (hawake ht) (hp.elim (fun e => e ▸ hn) fun e => e.2.1) k) }

theorem tagsFollowPower_of_same (h : TagsFollowPower s) (hs : t.slots = s.slots) (he : t.entries = s.entries)
    (hp : PowerMoves s.power t.power) : TagsFollowPower t := by
  refine tagsFollowPower_of_less h (fun k => by rw [hs]; exact id) (fun k => by rw [hs]; exact id)
    (fun e => by rw [he]; exact id) ?_
  rcases powerMoves_state hp with e | ⟨e, f⟩
  · exact .inl e
  · exact .inr ⟨by simp [e], by simp [e], by simp [f]⟩

theorem unquarantine_of_not_busy {x : Slot} (h : x.isBusy = false) : unquarantine x = .free := by
  cases x with
  | free => rfl
  | busy => cases h
  | quarantined => rfl

/-- R116: the power state's own transitions. -/
theorem tagsFollowPower_change {p : Power} (k : PowerChange s p) (h : TagsFollowPower s) :
    TagsFollowPower (setPower p s) := by
  have hlate (hs : s.power.state ≠ .awake ∧ s.power.state ≠ .entering) (hp : p.state ≠ .awake) :
      TagsFollowPower (setPower p s) :=
    tagsFollowPower_of_less h (fun _ => id) (fun _ => id) (fun _ => id) (.inr ⟨hs.1, hs.2, hp⟩)
  cases k with
  | sleep owed hs hi =>
    simp only [idleCondition, Bool.and_eq_true, Bool.not_eq_true', Vector.any_eq_false] at hi
    obtain ⟨⟨⟨⟨⟨⟨hbusy, hreleasing⟩, -⟩, -⟩, -⟩, -⟩, -⟩ := hi
    exact {
      busy := fun _ k => by simpa using hbusy k.val k.isLt
      releasing := fun _ e he => hreleasing e.val e.isLt (beq_iff_eq.2 he)
      free := fun _ hn => absurd rfl hn }
  | decline hs => exact ⟨fun hn => absurd rfl hn, fun hn => absurd rfl hn, fun hn => absurd rfl hn⟩
  | ready hs => exact ⟨fun hn => absurd rfl hn, fun hn => absurd rfl hn, fun hn => absurd rfl hn⟩
  | lost hs ha => exact hlate (by simp [hs]) (by simp)
  | retry hs ha => exact hlate (by simp [hs]) (by simp)
  | recover hs => exact hlate (by simp [hs]) (by simp)

theorem tagsFollowPower_setSlot {k : TagIx} {x : Slot} (hx : x = .free ∨ (x.isBusy = false ∧ s.power.state = .awake))
    (h : TagsFollowPower s) : TagsFollowPower (setSlot k x s) := by
  have hbusy : x.isBusy = false := hx.elim (fun e => e ▸ rfl) fun e => e.1
  exact {
    busy := fun ht j => by
      rw [setSlot_slots, getElem_set_fin]
      split
      · exact hbusy
      · exact h.busy ht j
    releasing := h.releasing
    free := fun ht hn j => by
      rw [setSlot_slots, getElem_set_fin]
      split
      · exact hx.elim id fun e => absurd e.2 ht
      · exact h.free ht hn j }

/-- In AWAKE the statement says nothing. -/
theorem tagsFollowPower_of_awake (h : t.power.state = .awake) : TagsFollowPower t :=
  ⟨fun hn => absurd h hn, fun hn => absurd h hn, fun hn => absurd h hn⟩

theorem releasing_set {v : Vector Entry Config.numEntries} {e : EntryIx} {x : Entry}
    (hx : x.state = .releasing → v[e].state = .releasing) (f : EntryIx) (h : (v.set e x)[f].state = .releasing) :
    v[f].state = .releasing := by
  rw [getElem_set_fin] at h
  split at h
  · next hf => exact hf ▸ hx h
  · exact h

theorem tagsFollowPower_setEntry {e : EntryIx} {x : Entry} (h : TagsFollowPower s) (hs : t.slots = s.slots)
    (he : t.entries = s.entries.set e x) (hp : PowerMoves s.power t.power)
    (hx : x.state = .releasing → s.entries[e].state = .releasing) : TagsFollowPower t := by
  have h1 : TagsFollowPower (setEntry e x s) :=
    tagsFollowPower_of_less h (fun _ => id) (fun _ => id) (releasing_set hx) (.inl rfl)
  exact tagsFollowPower_of_same h1 hs he hp

theorem freeQuarantined_slots (s : State) (k : TagIx) : (freeQuarantined s).slots[k] = unquarantine s.slots[k] :=
  getElem_map_fin _ _ k

theorem tagsFollowPower_freeQuarantined (h : TagsFollowPower s) : TagsFollowPower (freeQuarantined s) := by
  refine tagsFollowPower_of_less h (fun k hk => ?_) (fun k hk => ?_) (fun _ => id) (.inl rfl)
  · rw [freeQuarantined_slots, unquarantine_of_not_busy hk]
    rfl
  · rw [freeQuarantined_slots, hk]
    rfl

theorem move_tagsFollowPower {b : Port} {k : MoveKind} (m : Move b k s t) (h : TagsFollowPower s) :
    TagsFollowPower t := by
  cases m with
  | internal i => exact tagsFollowPower_of_same h i.slots i.entries i.power
  | allocate e l g m b ws s he hl hc hm hw hg =>
    exact tagsFollowPower_setEntry h (x := newEntry s e l g m b ws) rfl rfl (.refl _) nofun
  | merge e m b ws s he hw => exact tagsFollowPower_setEntry h (x := mergedEntry s.entries[e] m b ws) rfl rfl (.refl _) id
  | occupy k op n s hs hp => exact tagsFollowPower_of_awake hs
  | startRelease e s he hs hg => exact tagsFollowPower_of_awake hs
  | freeSlot k s hp => exact tagsFollowPower_setSlot (.inl rfl) h
  | quarantine k c a n s hk hp =>
    refine tagsFollowPower_setSlot (.inr ⟨rfl, ?_⟩) h
    by_contra hs
    rw [h.busy hs k] at hk
    cases hk
  | releaseToFree e s he hp =>
    have i := respondAll_internal s.entries[e].waiters .done s
    exact tagsFollowPower_setEntry h (e := e) (x := .cleared s.entries[e].data) i.slots
      (congrArg (·.set e (.cleared s.entries[e].data)) i.entries) i.power nofun
  | releaseToFaulted e k c s he hk hp =>
    have i := respondAll_internal s.entries[e].waiters (.error .memory) s
    exact tagsFollowPower_setEntry h (e := e)
      (x := { s.entries[e] with state := .faulted, waiters := [], faultSlot := some k }) i.slots
      (congrArg (·.set e { s.entries[e] with state := .faulted, waiters := [], faultSlot := some k }) i.entries)
      i.power nofun
  | releaseToHeld e s he hp =>
    exact tagsFollowPower_setEntry h (e := e)
      (x := { s.entries[e] with state := .held, attempts := 0, lastCause := none }) rfl rfl (.refl _) nofun
  | noteFailure e n c s he hp =>
    exact tagsFollowPower_setEntry h (e := e)
      (x := { s.entries[e] with attempts := n, lastCause := c }) rfl rfl (.refl _)
      id
  | retry e s he hg hc =>
    obtain ⟨v, w, i⟩ := removeRecordOf_internal e s
    refine tagsFollowPower_setEntry (s := removeRecordOf e s) (e := e) ?_ rfl rfl (.refl _) nofun
    exact tagsFollowPower_of_same h i.slots i.entries i.power
  | discard e s he =>
    obtain ⟨v, w, i⟩ := removeRecordOf_internal e s
    refine tagsFollowPower_setEntry (s := removeRecordOf e s) (e := e) ?_ (x := .cleared _) rfl rfl (.refl _) nofun
    exact tagsFollowPower_of_same h i.slots i.entries i.power
  | refuseWaiters e s =>
    unfold Machine.refuseWaiters
    dsimp only
    split
    · have i := respondAll_internal s.entries[e].waiters (.error .unavailable) s
      exact tagsFollowPower_setEntry h (e := e) (x := { s.entries[e] with waiters := [] }) i.slots
        (congrArg (·.set e { s.entries[e] with waiters := [] }) i.entries) i.power id
    · exact h
  | freeQuarantined s => exact tagsFollowPower_freeQuarantined h
  | asleep s hs =>
    have hn : s.power.state ≠ .awake := by simp [hs]
    have hfree (k : TagIx) : (freeQuarantined (setPower
        { s.power with state := .asleep, notedWake := false, cycleOwed := false } s)).slots[k] = .free :=
      (freeQuarantined_slots _ k).trans (unquarantine_of_not_busy (h.busy hn k))
    exact ⟨fun _ k => by rw [hfree]; rfl, fun _ => h.releasing hn, fun _ _ => hfree⟩
  | power p s hp => exact tagsFollowPower_change hp h
  | powerTimes p s hp =>
    exact tagsFollowPower_of_less h (fun _ => id) (fun _ => id) (fun _ => id) (.inl hp.state)
  | _ => exact { h with }

/-- A part with every slot FREE and every entry FREE. -/
theorem tagsFollowPower_of_empty (hs : ∀ k : TagIx, s.slots[k] = .free)
    (he : ∀ e : EntryIx, s.entries[e].state = .free) :
    TagsFollowPower s where
  busy _ k := by rw [hs k]; rfl
  releasing _ e h := by rw [he e] at h; cases h
  free _ _ := hs

theorem tagsFollowPower_endReset (hp : PowerSound s) (h : TagsFollowPower s) : TagsFollowPower (endReset s) := by
  rcases endReset_cases s with e | ⟨hr, e⟩ <;> rw [e]
  · exact h
  · exact tagsFollowPower_of_less h (fun _ => id) (fun _ => id) (fun _ => id) (.inl (hp.resetting hr).1.symm)

theorem exec_tagsFollowPower {c : Instr} (hp : PowerSound s) (hs : TagsFollowPower s) (h : exec c s = .next t) :
    TagsFollowPower t := by
  rcases exec_cases h with rfl | rfl | rfl | ⟨-, hm⟩
  · exact tagsFollowPower_of_empty slots_reset fun e => congrArg Entry.state (entries_reset e)
  · unfold whileRunning
    split
    · exact tagsFollowPower_of_empty slots_reset fun e => congrArg Entry.state (entries_warmReset s e)
    · exact hs
  · exact tagsFollowPower_endReset hp hs
  · exact hm.keep (fun _ _ _ m => move_tagsFollowPower m) hs

end Tags

end Sys2Proof.Proofs

namespace Sys2Proof.Settled

open Sys2Proof Sys2Proof.Machine Sys2Proof.Proofs

/-- Settles O6: the queues and lists by the moves, the retry lists by what an attempt's end and a grant hand on. -/
theorem everyStepKeepsTheBounds : Obligations.EveryStepKeepsTheBounds := by
  intro s t hs h
  exact step_keeps (fun _ _ _ _ h => { h with }) (fun _ _ _ => exec_bounded) hs h

/-- Settles O10: the power states by the moves, with the power record sound for the end of a reset; the owners of releases
by what an attempt's end and a grant hand on. -/
theorem everyStepKeepsTagsUnderPower : Obligations.EveryStepKeepsTagsUnderPower := by
  refine ⟨fun s t hp hs h => ?_, fun s t hs h => ?_⟩
  · refine (step_keeps (P := fun u => PowerSound u ∧ TagsFollowPower u) ?_ ?_ ⟨hp, hs⟩ h).2
    · exact fun _ _ _ _ h => ⟨{ h.1 with }, { h.2 with }⟩
    · exact fun _ _ _ h hx => ⟨exec_powerSound h.1 hx, exec_tagsFollowPower h.1 h.2 hx⟩
  · exact step_keeps (fun _ _ _ _ h => { h with }) (fun _ _ _ => exec_releasesOwned) hs h

end Sys2Proof.Settled

/-! PROOFS. The hold store's bookkeeping (R2 to R4, R12 to R14): three parts, the entries, the age list and the counts,
each kept by a change of one entry. -/

namespace Sys2Proof.Proofs

open Sys2Proof Sys2Proof.Machine

/-! ## The three parts of the bookkeeping -/

abbrev Entries := Vector Entry Config.numEntries

/-- R2 to R4, R12: distinct lines and numbers below the counter, masks that are not empty, cleared FREE records. -/
structure EntriesSound (v : Entries) (c : Seq) : Prop where
  lines : ∀ e f : EntryIx, bound v[e] → bound v[f] → v[e].line = v[f].line → e = f
  numbers : ∀ e f : EntryIx, bound v[e] → bound v[f] → v[e].seq = v[f].seq → e = f
  below : ∀ e : EntryIx, bound v[e] → v[e].seq < c
  masks : ∀ e : EntryIx, bound v[e] → v[e].mask ≠ 0
  cleared : ∀ e : EntryIx, v[e].state = .free → v[e] = Entry.cleared v[e].data

/-- R13: the age list holds exactly the HELD entries, oldest first. -/
structure AgeListSound (v : Entries) (l : List EntryIx) : Prop where
  listed : ∀ e : EntryIx, e ∈ l ↔ v[e].state = .held
  rising : l.Pairwise fun e f => v[e].seq < v[f].seq

/-- R14: the counts agree with the entries. -/
structure CountsSound (v : Entries) (c : Counts) : Prop where
  held : c.held = v.countP fun x => x.state == .held
  releasing : c.releasing = v.countP fun x => x.state == .releasing
  faulted : c.faulted = v.countP fun x => x.state == .faulted
  groups : ∀ g : GroupIx, c.groupHeld[g] = v.countP fun x => x.state == .held && x.group == g

theorem storeSound_iff {s : State} :
    StoreSound s ↔ EntriesSound s.entries s.seqCounter ∧ AgeListSound s.entries s.ageList ∧
      CountsSound s.entries s.counts :=
  ⟨fun h => ⟨⟨h.lines, h.numbers, h.below, h.masks, h.cleared⟩, ⟨h.listed, h.rising⟩,
      ⟨h.held, h.releasing, h.faulted, h.groups⟩⟩,
    fun ⟨h, k, m⟩ => ⟨h.lines, h.numbers, h.below, h.masks, h.cleared, k.listed, k.rising, m.held, m.releasing,
      m.faulted, m.groups⟩⟩

/-! ## The entries -/

section Entries

variable {v : Entries} {c d : Seq} {e : EntryIx} {x : Entry}

theorem seq_lt_of_lt_of_le {a b c : Seq} (h : a < b) (k : b ≤ c) : a < c := by
  rw [BitVec.lt_def] at *
  exact Nat.lt_of_lt_of_le h (BitVec.le_def.1 k)

theorem seq_lt_of_not_lt_of_ne {a b : Seq} (h : ¬a < b) (k : b ≠ a) : b < a := by
  rw [BitVec.lt_def] at *
  have hne : b.toNat ≠ a.toNat := fun he => k (BitVec.eq_of_toNat_eq he)
  omega

/-- A new content of one entry: its line and number are no other entry's. -/
theorem entriesSound_set (h : EntriesSound v c) (hcd : c ≤ d)
    (hline : bound x → ∀ f : EntryIx, f ≠ e → bound v[f] → v[f].line ≠ x.line)
    (hseq : bound x → ∀ f : EntryIx, f ≠ e → bound v[f] → v[f].seq ≠ x.seq) (hbelow : bound x → x.seq < d)
    (hmask : bound x → x.mask ≠ 0) (hcleared : x.state = .free → x = Entry.cleared x.data) :
    EntriesSound (v.set e x) d := by
  have distinct {α : Type} (key : Entry → α)
      (hkey : bound x → ∀ f : EntryIx, f ≠ e → bound v[f] → key v[f] ≠ key x)
      (hall : ∀ i j : EntryIx, bound v[i] → bound v[j] → key v[i] = key v[j] → i = j) (i j : EntryIx) :
      bound (v.set e x)[i] → bound (v.set e x)[j] → key (v.set e x)[i] = key (v.set e x)[j] → i = j := by
    rw [getElem_set_fin, getElem_set_fin]
    by_cases hi : i = e <;> by_cases hj : j = e <;> simp only [hi, hj, if_true, if_false, forall_const, implies_true]
    · exact fun bx bj he => absurd he.symm (hkey bx j hj bj)
    · exact fun bi bx he => absurd he (hkey bx i hi bi)
    · exact fun bi bj he => hall i j bi bj he
  refine ⟨distinct Entry.line hline h.lines, distinct Entry.seq hseq h.numbers, fun i => ?_, fun i => ?_, fun i => ?_⟩
  all_goals
    rw [getElem_set_fin]
    by_cases hi : i = e <;> simp only [hi, if_true, if_false]
  · exact hbelow
  · exact fun b => seq_lt_of_lt_of_le (h.below i b) hcd
  · exact hmask
  · exact h.masks i
  · exact hcleared
  · exact h.cleared i

/-- An entry that stays bound and keeps its line and its number. -/
theorem entriesSound_set_kept (h : EntriesSound v c) (hb : bound v[e]) (hx : bound x) (hline : x.line = v[e].line)
    (hseq : x.seq = v[e].seq) (hmask : x.mask ≠ 0) : EntriesSound (v.set e x) c :=
  entriesSound_set h (BitVec.le_refl c)
    (fun _ f hf bf he => hf (h.lines f e bf hb (he.trans hline)))
    (fun _ f hf bf he => hf (h.numbers f e bf hb (he.trans hseq)))
    (fun _ => hseq ▸ h.below e hb) (fun _ => hmask) (fun hf => absurd hf hx)

theorem entriesSound_set_cleared (h : EntriesSound v c) (data : Line) : EntriesSound (v.set e (.cleared data)) c :=
  entriesSound_set h (BitVec.le_refl c) (fun b => absurd rfl b) (fun b => absurd rfl b) (fun b => absurd rfl b)
    (fun b => absurd rfl b) (fun _ => rfl)

theorem seq_lt_succ {c : Seq} (h : c ≠ topSeq) : c < c + 1 ∧ c ≤ c + 1 := by
  have hlt : c.toNat < 2 ^ 48 := c.isLt
  have hne : c.toNat ≠ 2 ^ 48 - 1 := fun he => h (BitVec.eq_of_toNat_eq (by rw [he]; rfl))
  have hs : (c + 1).toNat = c.toNat + 1 := by
    rw [BitVec.toNat_add, show (1 : Seq).toNat = 1 from rfl]
    exact Nat.mod_eq_of_lt (by omega)
  exact ⟨by rw [BitVec.lt_def]; omega, by rw [BitVec.le_def]; omega⟩

/-- R12: an entry that takes the next number, with a line that no other entry has. -/
theorem entriesSound_set_next (h : EntriesSound v c) (hc : c ≠ topSeq)
    (hline : ∀ f : EntryIx, f ≠ e → bound v[f] → v[f].line ≠ x.line) (hseq : x.seq = c) (hmask : x.mask ≠ 0)
    (hx : bound x) : EntriesSound (v.set e x) (c + 1) :=
  entriesSound_set h (seq_lt_succ hc).2 (fun _ => hline)
    (fun _ f _ bf he => absurd (h.below f bf) (by rw [he, hseq]; exact BitVec.lt_irrefl c))
    (fun _ => by rw [hseq]; exact (seq_lt_succ hc).1) (fun _ => hmask) (fun hf => absurd hf hx)

end Entries

/-! ## The age list -/

section AgeList

variable {v : Entries} {l : List EntryIx} {e : EntryIx} {x : Entry}

/-- The numbers are read alike where one entry has kept its own. -/
theorem seq_set_kept (hseq : x.seq = v[e].seq) (f : EntryIx) : (v.set e x)[f].seq = v[f].seq := by
  rw [getElem_set_fin]
  split
  · next h => rw [h, hseq]
  · rfl

theorem state_set (f : EntryIx) : (v.set e x)[f].state = if f = e then x.state else v[f].state := by
  rw [getElem_set_fin]
  split <;> rfl

/-- The order is the same where the numbers are. -/
theorem rising_set_kept (hseq : x.seq = v[e].seq) {l : List EntryIx} (h : l.Pairwise fun e f => v[e].seq < v[f].seq) :
    l.Pairwise fun i j => (v.set e x)[i].seq < (v.set e x)[j].seq :=
  h.imp fun hij => by rw [seq_set_kept hseq, seq_set_kept hseq]; exact hij

/-- A member's number does not follow a change of an entry that is not on the list. -/
theorem rising_set_absent (he : e ∉ l) (h : l.Pairwise fun e f => v[e].seq < v[f].seq) :
    l.Pairwise fun i j => (v.set e x)[i].seq < (v.set e x)[j].seq := by
  refine h.imp_of_mem fun {i j} hi hj hij => ?_
  have hne {k : EntryIx} (hk : k ∈ l) : k ≠ e := fun heq => he (heq ▸ hk)
  rw [getElem_set_fin, getElem_set_fin, if_neg (hne hi), if_neg (hne hj)]
  exact hij

/-- An entry that is HELD before and after, or neither. -/
theorem ageListSound_set_same (h : AgeListSound v l) (hstate : x.state = .held ↔ v[e].state = .held)
    (hseq : x.state = .held → x.seq = v[e].seq) : AgeListSound (v.set e x) l := by
  refine ⟨fun f => ?_, ?_⟩
  · rw [state_set, h.listed]
    split
    · next hf => rw [hf]; exact hstate.symm
    · rfl
  · by_cases hx : x.state = .held
    · exact rising_set_kept (hseq hx) h.rising
    · exact rising_set_absent (fun hm => hx (hstate.2 ((h.listed e).1 hm))) h.rising

theorem ageListSound_set_unheld (h : AgeListSound v l) (he : v[e].state ≠ .held) (hx : x.state ≠ .held) :
    AgeListSound (v.set e x) l :=
  ageListSound_set_same h ⟨fun k => absurd k hx, fun k => absurd k he⟩ fun k => absurd k hx

/-- R13: an entry that becomes HELD with a number above every member's goes to the tail. -/
theorem ageListSound_append (h : AgeListSound v l) (he : v[e].state ≠ .held) (hx : x.state = .held)
    (hseq : ∀ f : EntryIx, v[f].state = .held → v[f].seq < x.seq) : AgeListSound (v.set e x) (l ++ [e]) := by
  have hmem : e ∉ l := fun hm => he ((h.listed e).1 hm)
  refine ⟨fun f => ?_, ?_⟩
  · rw [List.mem_append, List.mem_singleton, state_set, h.listed]
    split
    · next hf => simp [hf, hx]
    · next hf => simp [hf]
  · refine List.pairwise_append.2 ⟨rising_set_absent hmem h.rising, List.pairwise_singleton _ _, fun f hf g hg => ?_⟩
    cases List.mem_singleton.1 hg
    have hne : f ≠ e := fun hfe => hmem (hfe ▸ hf)
    rw [getElem_set_fin, if_neg hne, getElem_set_fin, if_pos rfl]
    exact hseq f ((h.listed f).1 hf)

theorem ageList_nodup (h : AgeListSound v l) : l.Nodup :=
  h.rising.imp fun {i j} hij (heq : i = j) => by
    subst heq
    exact BitVec.lt_irrefl _ hij

/-- R15: an entry that starts its release leaves the list. -/
theorem ageListSound_erase (h : AgeListSound v l) (hx : x.state ≠ .held) (hseq : x.seq = v[e].seq) :
    AgeListSound (v.set e x) (l.erase e) := by
  refine ⟨fun f => ?_, rising_set_kept hseq (h.rising.sublist List.erase_sublist)⟩
  rw [(ageList_nodup h).mem_erase_iff, h.listed, state_set]
  split
  · next hf => simp [hf, hx]
  · next hf => simp [hf]

theorem mem_insertBySeq (s : State) (e f : EntryIx) (l : List EntryIx) :
    f ∈ insertBySeq s e l ↔ f = e ∨ f ∈ l := by
  induction l with
  | nil => simp [insertBySeq]
  | cons a l ih =>
    rw [insertBySeq]
    split
    · simp
    · rw [List.mem_cons, ih, List.mem_cons]
      tauto

/-- R13: the place that the number gives keeps the list in order. -/
theorem rising_insertBySeq (s : State) (e : EntryIx) (l : List EntryIx)
    (hne : ∀ f ∈ l, s.entries[f].seq ≠ s.entries[e].seq)
    (h : l.Pairwise fun e f => s.entries[e].seq < s.entries[f].seq) :
    (insertBySeq s e l).Pairwise fun e f => s.entries[e].seq < s.entries[f].seq := by
  induction l with
  | nil => exact List.pairwise_singleton _ _
  | cons a l ih =>
    obtain ⟨ha, hl⟩ := List.pairwise_cons.1 h
    rw [insertBySeq]
    split
    · next hlt =>
      refine List.pairwise_cons.2 ⟨fun f hf => ?_, h⟩
      rcases List.mem_cons.1 hf with rfl | hf
      · exact hlt
      · exact BitVec.lt_trans hlt (ha f hf)
    · next hlt =>
      refine List.pairwise_cons.2 ⟨fun f hf => ?_, ih (fun f hf => hne f (List.mem_cons_of_mem a hf)) hl⟩
      rcases (mem_insertBySeq s e f l).1 hf with rfl | hf
      · exact seq_lt_of_not_lt_of_ne hlt (hne a List.mem_cons_self)
      · exact ha f hf

end AgeList

/-! ## The counts -/

section Counts

variable {v : Entries} {c : Counts} {e : EntryIx} {x : Entry}

/-- The number of entries that meet a test, after one entry has taken another content. -/
theorem countP_set_entry (p : Entry → Bool) (v : Entries) (e : EntryIx) (x : Entry) :
    (v.set e x).countP p + (if p v[e] then 1 else 0) = v.countP p + if p x then 1 else 0 := by
  have hpos : (if p v[e] then 1 else 0) ≤ v.countP p := Vector.boole_getElem_le_countP e.isLt
  rw [Vector.countP_set]
  simp only [Fin.getElem_fin] at hpos ⊢
  omega

/-- The counts after an entry has moved from one state to another: each rises by what the new content adds and falls by
what the old one took. -/
theorem countsSound_set {d : Counts} (h : CountsSound v c)
    (hheld : d.held + (if v[e].state == .held then 1 else 0) = c.held + if x.state == .held then 1 else 0)
    (hreleasing : d.releasing + (if v[e].state == .releasing then 1 else 0) =
      c.releasing + if x.state == .releasing then 1 else 0)
    (hfaulted : d.faulted + (if v[e].state == .faulted then 1 else 0) =
      c.faulted + if x.state == .faulted then 1 else 0)
    (hgroups : ∀ g : GroupIx, d.groupHeld[g] + (if v[e].state == .held && v[e].group == g then 1 else 0) =
      c.groupHeld[g] + if x.state == .held && x.group == g then 1 else 0) : CountsSound (v.set e x) d where
  held := by
    have := countP_set_entry (fun x => x.state == .held) v e x
    rw [← h.held] at this
    omega
  releasing := by
    have := countP_set_entry (fun x => x.state == .releasing) v e x
    rw [← h.releasing] at this
    omega
  faulted := by
    have := countP_set_entry (fun x => x.state == .faulted) v e x
    rw [← h.faulted] at this
    omega
  groups g := by
    have := countP_set_entry (fun x => x.state == .held && x.group == g) v e x
    rw [← h.groups g] at this
    have := hgroups g
    omega

/-- R14: the counts of a state and a group in it are positive while an entry is in it. -/
theorem counts_pos (h : CountsSound v c) (e : EntryIx) :
    (v[e].state = .held → 1 ≤ c.held ∧ 1 ≤ c.groupHeld[v[e].group]) ∧ (v[e].state = .releasing → 1 ≤ c.releasing) ∧
      (v[e].state = .faulted → 1 ≤ c.faulted) := by
  have hpos (p : Entry → Bool) (hp : p v[e] = true) : 1 ≤ v.countP p := by
    have h1 : (if p v[e] then 1 else 0) ≤ v.countP p := Vector.boole_getElem_le_countP e.isLt
    rwa [if_pos hp] at h1
  refine ⟨fun he => ⟨?_, ?_⟩, fun he => ?_, fun he => ?_⟩
  · rw [h.held]; exact hpos _ (by rw [he]; rfl)
  · rw [h.groups]; exact hpos _ (by rw [he]; simp)
  · rw [h.releasing]; exact hpos _ (by rw [he]; rfl)
  · rw [h.faulted]; exact hpos _ (by rw [he]; rfl)

/-- An entry that keeps its state and its group. -/
theorem countsSound_set_kept (h : CountsSound v c) (hstate : x.state = v[e].state) (hgroup : x.group = v[e].group) :
    CountsSound (v.set e x) c :=
  countsSound_set h (by rw [hstate]) (by rw [hstate]) (by rw [hstate]) (fun g => by rw [hstate, hgroup])

/-- A change between states other than HELD. -/
theorem countsSound_set_unheld (h : CountsSound v c) {d : Counts} (he : v[e].state ≠ .held) (hx : x.state ≠ .held)
    (hheld : d.held = c.held) (hgroups : d.groupHeld = c.groupHeld)
    (hreleasing : d.releasing + (if v[e].state == .releasing then 1 else 0) =
      c.releasing + if x.state == .releasing then 1 else 0)
    (hfaulted : d.faulted + (if v[e].state == .faulted then 1 else 0) =
      c.faulted + if x.state == .faulted then 1 else 0) : CountsSound (v.set e x) d := by
  have he' : (v[e].state == .held) = false := by simpa using he
  have hx' : (x.state == .held) = false := by simpa using hx
  refine countsSound_set h ?_ hreleasing hfaulted fun g => ?_
  · simp only [he', hx', hheld]
  · simp only [he', hx', hgroups, Bool.false_and]

/-- An entry of group g that comes to be HELD. -/
theorem countsSound_set_rises (h : CountsSound v c) {d : Counts} (he : v[e].state ≠ .held) (hx : x.state = .held)
    (hheld : d.held = (heldUp x.group c).held) (hgroups : d.groupHeld = (heldUp x.group c).groupHeld)
    (hreleasing : d.releasing + (if v[e].state == .releasing then 1 else 0) = c.releasing)
    (hfaulted : d.faulted + (if v[e].state == .faulted then 1 else 0) = c.faulted) : CountsSound (v.set e x) d := by
  have he' : (v[e].state == .held) = false := by simpa using he
  refine countsSound_set h ?_ ?_ ?_ fun g => ?_
  · rw [he', hx, hheld]; rfl
  · rw [hreleasing, hx]; rfl
  · rw [hfaulted, hx]; rfl
  · rw [he', hx, hgroups, heldUp, getElem_set_fin]
    by_cases hg : g = x.group
    · subst hg; simp
    · have hg' : ¬x.group = g := fun h => hg h.symm
      simp [hg, hg']

/-- A HELD entry that starts its release. -/
theorem countsSound_set_starts (h : CountsSound v c) (he : v[e].state = .held) (hx : x.state = .releasing) :
    CountsSound (v.set e x) { heldDown v[e].group c with releasing := c.releasing + 1 } := by
  obtain ⟨hpos, hgpos⟩ := (counts_pos h e).1 he
  refine countsSound_set h ?_ ?_ ?_ fun g => ?_
  · rw [he, hx]
    show c.held - 1 + 1 = c.held + 0
    omega
  · rw [he, hx]; rfl
  · rw [he, hx]; rfl
  · rw [he, hx, heldDown, getElem_set_fin]
    by_cases hg : g = v[e].group
    · subst hg
      simp only [if_true, beq_self_eq_true, Bool.true_and]
      show c.groupHeld[v[e].group] - 1 + 1 = c.groupHeld[v[e].group] + 0
      omega
    · have hg' : (v[e].group == g) = false := by simpa using fun h => hg h.symm
      rw [if_neg hg, hg']
      rfl

end Counts

/-! ## The transitions -/

section Transitions

variable {s t : State}

/-- The bookkeeping speaks of the entries, the age list, the counter and the counts alone. -/
theorem storeSound_of_eq (h : StoreSound s) (he : t.entries = s.entries) (ha : t.ageList = s.ageList)
    (hc : t.seqCounter = s.seqCounter) (hn : t.counts = s.counts) : StoreSound t := by
  rw [storeSound_iff] at h ⊢
  rw [he, ha, hc, hn]
  exact h

theorem storeSound_of_internal (h : StoreSound s) (k : Internal s t) : StoreSound t :=
  storeSound_of_eq h k.entries k.ageList k.seqCounter k.counts

theorem storeSound_respondAll (h : StoreSound s) (ws : List Waiter) (r : Response) : StoreSound (respondAll ws r s) :=
  storeSound_of_internal h (respondAll_internal ws r s)

theorem storeSound_removeRecordOf (h : StoreSound s) (e : EntryIx) : StoreSound (removeRecordOf e s) := by
  obtain ⟨v, w, i⟩ := removeRecordOf_internal e s
  exact storeSound_of_eq h i.entries i.ageList i.seqCounter i.counts

/-- R4: a line that lookup does not find is no entry's. -/
theorem lookup_none {l : LineAddr} (hl : lookup s l = none) (f : EntryIx) (hf : bound s.entries[f]) :
    s.entries[f].line ≠ l := by
  simpa using (List.find?_eq_none.1 hl f (List.mem_finRange f)) ∘ fun h => by simpa [bound] using ⟨hf, h⟩

/-- An entry whose state, line, number and group stay, with a mask that is not empty. -/
theorem storeSound_setEntry (h : StoreSound s) {e : EntryIx} {x : Entry} (hb : bound s.entries[e])
    (hstate : x.state = s.entries[e].state) (hline : x.line = s.entries[e].line) (hseq : x.seq = s.entries[e].seq)
    (hgroup : x.group = s.entries[e].group) (hmask : x.mask ≠ 0) : StoreSound (setEntry e x s) := by
  obtain ⟨he, ha, hc⟩ := storeSound_iff.1 h
  refine storeSound_iff.2 ⟨entriesSound_set_kept he hb (by rw [bound, hstate]; exact hb) hline hseq hmask, ?_, ?_⟩
  · exact ageListSound_set_same ha (by rw [hstate]) fun _ => hseq
  · exact countsSound_set_kept hc hstate hgroup

theorem bound_of {x : Entry} {a : EntryState} (h : x.state = a) (ha : a ≠ .free) : bound x := by
  rw [bound, h]
  exact ha

theorem or_ne_zero {a : Mask} (b : Mask) (h : a ≠ 0) : a ||| b ≠ 0 := by
  intro h0
  apply h
  ext i hi
  have := congrArg (·.getLsbD i) h0
  simp [hi] at this
  simpa using this.1

theorem storeSound_merge (h : StoreSound s) {e : EntryIx} (m : Mask) (b : Line) (ws : List Waiter)
    (he : s.entries[e].state = .held) : StoreSound (merge e m b ws s) := by
  have hb : bound s.entries[e] := bound_of he (by decide)
  exact storeSound_setEntry h hb rfl rfl rfl rfl (or_ne_zero m (h.masks e hb))

theorem storeSound_allocate (h : StoreSound s) {e : EntryIx} {l : LineAddr} (g : GroupIx) {m : Mask} (b : Line)
    (ws : List Waiter) (he : s.entries[e].state = .free) (hl : lookup s l = none) (hc : s.seqCounter ≠ topSeq)
    (hm : m ≠ 0) : StoreSound (allocate e l g m b ws s) := by
  obtain ⟨hes, ha, hn⟩ := storeSound_iff.1 h
  refine storeSound_iff.2 ⟨?_, ?_, ?_⟩
  · exact entriesSound_set_next hes hc (fun f _ bf => lookup_none hl f bf) rfl hm (bound_of (a := .held) rfl (by decide))
  · exact ageListSound_append ha (by rw [he]; decide) rfl fun f hf => hes.below f (bound_of hf (by decide))
  · exact countsSound_set_rises hn (by rw [he]; decide) rfl rfl rfl (by rw [he]; rfl) (by rw [he]; rfl)

theorem storeSound_startRelease (h : StoreSound s) {e : EntryIx} (he : s.entries[e].state = .held) :
    StoreSound (startRelease e s) := by
  obtain ⟨hes, ha, hn⟩ := storeSound_iff.1 h
  have hb : bound s.entries[e] := bound_of he (by decide)
  refine storeSound_iff.2 ⟨?_, ?_, ?_⟩
  · exact entriesSound_set_kept hes hb (bound_of (a := .releasing) rfl (by decide)) rfl rfl (hes.masks e hb)
  · exact ageListSound_erase ha nofun rfl
  · exact countsSound_set_starts hn he rfl

theorem storeSound_releaseToFree (h : StoreSound s) {e : EntryIx} (he : s.entries[e].state = .releasing) :
    StoreSound (releaseToFree e s) := by
  have i := respondAll_internal s.entries[e].waiters .done s
  obtain ⟨hes, ha, hn⟩ := storeSound_iff.1 (storeSound_respondAll h s.entries[e].waiters .done)
  have he' : (respondAll s.entries[e].waiters .done s).entries[e].state = .releasing := by rw [i.entries]; exact he
  have hpos := (counts_pos hn e).2.1 he'
  refine storeSound_iff.2 ⟨entriesSound_set_cleared hes _, ?_, ?_⟩
  · exact ageListSound_set_unheld ha (by rw [he']; decide) nofun
  · refine countsSound_set_unheld hn (by rw [he']; decide) nofun rfl rfl ?_ (by rw [he']; rfl)
    rw [he']
    show _ - 1 + 1 = _
    exact Nat.sub_add_cancel hpos

theorem storeSound_releaseToFaulted (h : StoreSound s) {e : EntryIx} (k : FaultIx) (c : FailCause)
    (he : s.entries[e].state = .releasing) : StoreSound (releaseToFaulted e k c s) := by
  have i := respondAll_internal s.entries[e].waiters (.error .memory) s
  obtain ⟨hes, ha, hn⟩ := storeSound_iff.1 (storeSound_respondAll h s.entries[e].waiters (.error .memory))
  have hee : (respondAll s.entries[e].waiters (.error .memory) s).entries[e] = s.entries[e] := by rw [i.entries]
  have he' : (respondAll s.entries[e].waiters (.error .memory) s).entries[e].state = .releasing := by
    rw [hee]; exact he
  have hpos := (counts_pos hn e).2.1 he'
  have hb := bound_of he' (by decide)
  refine storeSound_iff.2 ⟨?_, ?_, ?_⟩
  · exact entriesSound_set_kept hes hb (bound_of (a := .faulted) rfl (by decide)) (by rw [hee]) (by rw [hee])
      (hee ▸ hes.masks e hb)
  · exact ageListSound_set_unheld ha (by rw [he']; decide) nofun
  · refine countsSound_set_unheld hn (by rw [he']; decide) nofun rfl rfl ?_ (by rw [he']; rfl)
    rw [he']
    show _ - 1 + 1 = _
    exact Nat.sub_add_cancel hpos

theorem storeSound_releaseToHeld (h : StoreSound s) {e : EntryIx} (he : s.entries[e].state = .releasing) :
    StoreSound (releaseToHeld e s) := by
  obtain ⟨hes, ha, hn⟩ := storeSound_iff.1 h
  have hb : bound s.entries[e] := bound_of he (by decide)
  have hpos := (counts_pos hn e).2.1 he
  have hmem : e ∉ s.ageList := fun hm => by rw [ha.listed, he] at hm; cases hm
  refine storeSound_iff.2 ⟨?_, ⟨fun f => ?_, ?_⟩, ?_⟩
  · exact entriesSound_set_kept hes hb (bound_of (a := .held) rfl (by decide)) rfl rfl (hes.masks e hb)
  · show f ∈ insertBySeq s e s.ageList ↔ (s.entries.set e _)[f].state = .held
    rw [mem_insertBySeq, state_set, ha.listed]
    split
    · next hf => simp [hf]
    · next hf => simp [hf]
  · refine rising_set_kept (x := { s.entries[e] with state := .held, attempts := 0, lastCause := none }) rfl
      (rising_insertBySeq s e s.ageList (fun f hf hseq => hmem ?_) ha.rising)
    have hf' : s.entries[f].state = .held := (ha.listed f).1 hf
    exact hes.numbers f e (bound_of hf' (by decide)) hb hseq ▸ hf
  · refine countsSound_set_rises hn (by rw [he]; decide) rfl rfl rfl ?_ (by rw [he]; rfl)
    rw [he]
    show _ - 1 + 1 = _
    exact Nat.sub_add_cancel hpos

theorem storeSound_reenter (h : StoreSound s) {e : EntryIx} (he : s.entries[e].state = .faulted)
    (hc : s.seqCounter ≠ topSeq) : StoreSound (reenter e s) := by
  obtain ⟨hes, ha, hn⟩ := storeSound_iff.1 h
  have hb : bound s.entries[e] := bound_of he (by decide)
  have hpos := (counts_pos hn e).2.2 he
  refine storeSound_iff.2 ⟨?_, ?_, ?_⟩
  · exact entriesSound_set_next hes hc (fun f hf bf hl => hf (hes.lines f e bf hb hl)) rfl (hes.masks e hb)
      (bound_of (a := .held) rfl (by decide))
  · exact ageListSound_append ha (by rw [he]; decide) rfl fun f hf => hes.below f (bound_of hf (by decide))
  · refine countsSound_set_rises hn (by rw [he]; decide) rfl rfl rfl (by rw [he]; rfl) ?_
    rw [he]
    show _ - 1 + 1 = _
    exact Nat.sub_add_cancel hpos

theorem storeSound_discard (h : StoreSound s) {e : EntryIx} (he : s.entries[e].state = .faulted) :
    StoreSound (discard e s) := by
  obtain ⟨hes, ha, hn⟩ := storeSound_iff.1 h
  have hpos := (counts_pos hn e).2.2 he
  refine storeSound_iff.2 ⟨entriesSound_set_cleared hes _, ?_, ?_⟩
  · exact ageListSound_set_unheld ha (by rw [he]; decide) nofun
  · refine countsSound_set_unheld hn (by rw [he]; decide) nofun rfl rfl (by rw [he]; rfl) ?_
    rw [he]
    show _ - 1 + 1 = _
    exact Nat.sub_add_cancel hpos

theorem storeSound_refuseWaiters (h : StoreSound s) (e : EntryIx) : StoreSound (refuseWaiters s e) := by
  unfold Machine.refuseWaiters
  dsimp only
  split
  · next he =>
    have i := respondAll_internal s.entries[e].waiters (.error .unavailable) s
    have hee : (respondAll s.entries[e].waiters (.error .unavailable) s).entries[e] = s.entries[e] := by rw [i.entries]
    have h' := storeSound_respondAll h s.entries[e].waiters (.error .unavailable)
    have hb : bound (respondAll s.entries[e].waiters (.error .unavailable) s).entries[e] :=
      bound_of (a := .held) (by rw [hee]; simpa using he) (by decide)
    exact storeSound_setEntry h' hb (by rw [hee]) (by rw [hee]) (by rw [hee]) (by rw [hee]) (hee ▸ h'.masks e hb)
  · exact h

theorem storeSound_restart (h : StoreSound s) (hf : ∀ e : EntryIx, s.entries[e].state = .free) :
    StoreSound { s with seqCounter := 0, pressure := false } :=
  { h with below := fun e hb => absurd (hf e) hb }

theorem move_storeSound {b : Port} {k : MoveKind} (m : Move b k s t) (h : StoreSound s) : StoreSound t := by
  cases m with
  | internal i => exact storeSound_of_internal h i
  | allocate e l g m b ws s he hl hc hm hw hg => exact storeSound_allocate h g b ws he hl hc hm
  | merge e m b ws s he hw => exact storeSound_merge h m b ws he
  | startRelease e s he hp hg => exact storeSound_startRelease h he
  | releaseToFree e s he hp => exact storeSound_releaseToFree h he
  | releaseToFaulted e k c s he hk hp => exact storeSound_releaseToFaulted h k c he
  | releaseToHeld e s he hp => exact storeSound_releaseToHeld h he
  | noteFailure e n c s he hp =>
    have hb := bound_of he (by decide)
    exact storeSound_setEntry h hb rfl rfl rfl rfl (h.masks e hb)
  | retry e s he hg hc =>
    obtain ⟨v, w, i⟩ := removeRecordOf_internal e s
    exact storeSound_reenter (storeSound_removeRecordOf h e) (by rw [removeRecordOf_entries]; exact he)
      (by rw [i.seqCounter]; exact hc)
  | discard e s he =>
    exact storeSound_discard (storeSound_removeRecordOf h e) (by rw [removeRecordOf_entries]; exact he)
  | refuseWaiters e s => exact storeSound_refuseWaiters h e
  | restartNumbers s hf => exact storeSound_restart h hf
  | _ => exact { h with }

/-- A store of cleared entries alone, with nothing listed or counted. -/
theorem storeSound_of_cleared (he : ∀ e : EntryIx, ∃ d, s.entries[e] = .cleared d) (ha : s.ageList = [])
    (hn : s.counts = .zero) : StoreSound s := by
  have hfree (e : EntryIx) : s.entries[e].state = .free := by
    obtain ⟨d, h⟩ := he e
    rw [h]
    rfl
  have hnone (p : Entry → Bool) (hp : ∀ x : Entry, x.state = .free → p x = false) : s.entries.countP p = 0 := by
    rw [Vector.countP_eq_zero]
    intro x hx
    obtain ⟨n, hn, rfl⟩ := Vector.getElem_of_mem hx
    simpa using hp _ (hfree ⟨n, hn⟩)
  exact {
    lines := fun e _ hb => absurd (hfree e) hb
    numbers := fun e _ hb => absurd (hfree e) hb
    below := fun e hb => absurd (hfree e) hb
    masks := fun e hb => absurd (hfree e) hb
    cleared := fun e _ => by
      obtain ⟨d, h⟩ := he e
      rw [h]
      rfl
    listed := fun e => by rw [ha, hfree e]; simp
    rising := by rw [ha]; exact .nil
    held := by rw [hn, hnone _ (fun x hx => by rw [hx]; rfl)]; rfl
    releasing := by rw [hn, hnone _ (fun x hx => by rw [hx]; rfl)]; rfl
    faulted := by rw [hn, hnone _ (fun x hx => by rw [hx]; rfl)]; rfl
    groups := fun g => by
      rw [hn, hnone _ (fun x hx => by rw [hx]; rfl)]
      exact getElem_replicate_fin 0 g }

theorem storeSound_reset : StoreSound State.reset := storeSound_of_cleared (fun e => ⟨_, entries_reset e⟩) rfl rfl

theorem storeSound_warmReset (s : State) : StoreSound (warmReset s) :=
  storeSound_of_cleared (fun e => ⟨_, entries_warmReset s e⟩) rfl rfl

theorem storeSound_endReset (h : StoreSound s) : StoreSound (endReset s) := by
  rcases endReset_cases s with e | ⟨-, e⟩ <;> rw [e]
  · exact h
  · exact { h with }

end Transitions

end Sys2Proof.Proofs

namespace Sys2Proof.Settled

open Sys2Proof Sys2Proof.Machine Sys2Proof.Proofs

/-- Settles O7: each transition of an entry carries the age list and the counts with it. -/
theorem everyStepKeepsTheStore : Obligations.EveryStepKeepsTheStore := by
  intro s t hs h
  exact step_keeps_of_moves (fun _ _ _ _ h => { h with }) (fun _ _ _ _ m h => move_storeSound m h)
    (fun _ => { storeSound_reset with }) (fun s _ => storeSound_warmReset s) (fun _ h => storeSound_endReset h) hs h

end Sys2Proof.Settled

/-! PROOFS. The fault list and the FAULTED entries name each other (R1, R160, R161). -/

namespace Sys2Proof.Proofs

open Sys2Proof Sys2Proof.Machine

section Faults

variable {s t : State} {e : EntryIx} {x : Entry}

/-- The statement speaks of the entries, the fault list and the FAULTED count alone. -/
theorem faultsSound_of_eq (h : FaultsSound s) (he : t.entries = s.entries) (hf : t.faults = s.faults)
    (ho : t.faultOrder = s.faultOrder) (hn : t.counts.faulted = s.counts.faulted) : FaultsSound t where
  named := by rw [he, hf]; exact h.named
  recorded := by rw [he, hf]; exact h.recorded
  unfaulted := by rw [he]; exact h.unfaulted
  once := by rw [ho]; exact h.once
  ordered := by rw [ho, hf]; exact h.ordered
  number := by rw [ho, hn]; exact h.number

theorem faultsSound_of_internal (h : FaultsSound s) (k : Internal s t) : FaultsSound t :=
  faultsSound_of_eq h k.entries k.faults k.faultOrder (by rw [k.counts])

/-- A change of an entry that is not FAULTED, before or after, and has no record. -/
theorem faultsSound_setEntry (h : FaultsSound s) (he : s.entries[e].state ≠ .faulted) (hx : x.state ≠ .faulted)
    (hslot : x.faultSlot = none) : FaultsSound (setEntry e x s) := by
  refine { h with named := fun k f hk => ?_, recorded := fun i hi => ?_, unfaulted := fun i hi => ?_ }
  · have hn := h.named k f hk
    have hne : f.entry ≠ e := fun hfe => he (hfe ▸ hn.1)
    rw [setEntry_entries, getElem_set_fin, if_neg hne]
    exact hn
  · rw [setEntry_entries, getElem_set_fin] at *
    split at hi
    · exact absurd hi hx
    · next hne =>
      rw [if_neg hne]
      exact h.recorded i hi
  · rw [setEntry_entries, getElem_set_fin] at *
    split at hi
    · next hie => rw [if_pos hie]; exact hslot
    · next hne =>
      rw [if_neg hne]
      exact h.unfaulted i hi

/-- R162: entry e goes FAULTED with a record in free slot k, which goes to the end of the addition order. -/
theorem faultsSound_added {k : FaultIx} {f : FaultRecord} (h : FaultsSound s) (hk : s.faults[k] = none)
    (he : s.entries[e].state ≠ .faulted) (hx : x.state = .faulted) (hslot : x.faultSlot = some k)
    (hf : f.entry = e ∧ x.line = f.line ∧ x.group = f.group ∧ x.mask = f.mask)
    (hentries : t.entries = s.entries.set e x) (hfaults : t.faults = s.faults.set k (some f))
    (horder : t.faultOrder = s.faultOrder ++ [k]) (hcount : t.counts.faulted = s.counts.faulted + 1) :
    FaultsSound t where
  named j r hj := by
    rw [hfaults, getElem_set_fin] at hj
    rw [hentries]
    split at hj
    · next hjk =>
      cases hj
      rw [getElem_set_fin, if_pos hf.1, hjk]
      exact ⟨hx, hslot, hf.2⟩
    · have hn := h.named j r hj
      have hne : r.entry ≠ e := fun hre => he (hre ▸ hn.1)
      rw [getElem_set_fin, if_neg hne]
      exact hn
  recorded i hi := by
    rw [hentries, getElem_set_fin] at hi
    rw [hentries, hfaults, getElem_set_fin]
    split at hi
    · next hie => exact ⟨k, f, by rw [if_pos hie]; exact hslot, by rw [getElem_set_fin, if_pos rfl],
        hf.1.trans hie.symm⟩
    · next hie =>
      obtain ⟨j, r, hsj, hj, hr⟩ := h.recorded i hi
      have hne : j ≠ k := fun hjk => by rw [hjk, hk] at hj; cases hj
      exact ⟨j, r, by rw [if_neg hie]; exact hsj, by rw [getElem_set_fin, if_neg hne]; exact hj, hr⟩
  unfaulted i hi := by
    rw [hentries, getElem_set_fin] at *
    split at hi
    · exact absurd hx hi
    · next hie => rw [if_neg hie]; exact h.unfaulted i hi
  once := by
    have hnot : k ∉ s.faultOrder := fun hm => by rw [h.ordered, hk] at hm; cases hm
    rw [horder, List.nodup_append]
    refine ⟨h.once, by simp, fun i hi j hj => ?_⟩
    rw [List.mem_singleton] at hj
    exact fun hij => hnot (hj ▸ hij ▸ hi)
  ordered j := by
    rw [horder, hfaults, List.mem_append, List.mem_singleton, getElem_set_fin, h.ordered]
    split
    · next hjk => simp [hjk]
    · next hjk => simp [hjk]
  number := by rw [horder, hcount, List.length_append, h.number]; rfl

/-- R163: entry e leaves FAULTED and its record leaves the list. -/
theorem faultsSound_removed {k : FaultIx} (h : FaultsSound s) (he : s.entries[e].state = .faulted)
    (hek : s.entries[e].faultSlot = some k) (hx : x.state ≠ .faulted) (hslot : x.faultSlot = none)
    (hentries : t.entries = s.entries.set e x) (hfaults : t.faults = s.faults.set k none)
    (horder : t.faultOrder = s.faultOrder.erase k) (hcount : t.counts.faulted = s.counts.faulted - 1) :
    FaultsSound t := by
  obtain ⟨k', f, hk', hf, hfe⟩ := h.recorded e he
  cases hk'.symm.trans hek
  have other {j : FaultIx} {r : FaultRecord} (hj : s.faults[j] = some r) : r.entry = e → j = k := by
    rintro rfl
    exact Option.some.inj ((h.named j r hj).2.1.symm.trans hek)
  have hmem : k ∈ s.faultOrder := by rw [h.ordered, hf]; rfl
  exact {
    named := fun j r hj => by
      rw [hfaults, getElem_set_fin] at hj
      split at hj
      · cases hj
      · next hjk =>
        rw [hentries, getElem_set_fin, if_neg fun hre => hjk (other hj hre)]
        exact h.named j r hj
    recorded := fun i hi => by
      rw [hentries, getElem_set_fin] at hi
      rw [hentries, hfaults, getElem_set_fin]
      split at hi
      · exact absurd hi hx
      · next hie =>
        obtain ⟨j, r, hsj, hj, hr⟩ := h.recorded i hi
        have hjk : j ≠ k := fun hjk => by
          subst hjk
          cases hj.symm.trans hf
          exact hie (hr.symm.trans hfe)
        exact ⟨j, r, by rw [if_neg hie]; exact hsj, by rw [getElem_set_fin, if_neg hjk]; exact hj, hr⟩
    unfaulted := fun i hi => by
      rw [hentries, getElem_set_fin] at *
      split at hi
      · next hie => rw [if_pos hie]; exact hslot
      · next hie => rw [if_neg hie]; exact h.unfaulted i hi
    once := by rw [horder]; exact h.once.erase k
    ordered := fun j => by
      rw [horder, hfaults, h.once.mem_erase_iff, getElem_set_fin, h.ordered]
      split
      · next hjk => simp [hjk]
      · next hjk => simp [hjk]
    number := by rw [horder, hcount, List.length_erase_of_mem hmem, h.number] }

/-- What the removal of a FAULTED entry's record leaves, but for the internal work of a lifted halt. -/
theorem removeRecordOf_of_slot {k : FaultIx} (hk : s.entries[e].faultSlot = some k) :
    Internal (removeFault k s) (removeRecordOf e s) := by
  unfold removeRecordOf removeFaultAndLift
  rw [hk]
  dsimp only
  split
  · exact liftHalt_internal _
  · exact .refl _

theorem faultsSound_refuseWaiters (h : FaultsSound s) (e : EntryIx) : FaultsSound (refuseWaiters s e) := by
  unfold Machine.refuseWaiters
  dsimp only
  split
  · next he =>
    have hne : s.entries[e].state ≠ .faulted := by rw [beq_iff_eq.1 he]; decide
    have i := respondAll_internal s.entries[e].waiters (.error .unavailable) s
    exact faultsSound_setEntry (faultsSound_of_internal h i) (by rw [i.entries]; exact hne) hne (h.unfaulted e hne)
  · exact h

theorem move_faultsSound {b : Port} {k : MoveKind} (m : Move b k s t) (h : FaultsSound s) : FaultsSound t := by
  cases m with
  | internal i => exact faultsSound_of_internal h i
  | allocate e l g m b ws s he hl hc hm hw hg =>
    exact faultsSound_of_eq (faultsSound_setEntry (x := newEntry s e l g m b ws) h (by rw [he]; decide) nofun rfl)
      rfl rfl rfl rfl
  | merge e m b ws s he hw =>
    have hne : s.entries[e].state ≠ .faulted := by rw [he]; decide
    exact faultsSound_setEntry h hne hne (h.unfaulted e hne)
  | startRelease e s he hp hg =>
    have hne : s.entries[e].state ≠ .faulted := by rw [he]; decide
    exact faultsSound_of_eq (faultsSound_setEntry
      (x := { s.entries[e] with state := .releasing, attempts := 0 }) h hne nofun (h.unfaulted e hne)) rfl rfl rfl rfl
  | releaseToFree e s he hp =>
    have i := respondAll_internal s.entries[e].waiters .done s
    have hne : s.entries[e].state ≠ .faulted := by rw [he]; decide
    exact faultsSound_of_eq (faultsSound_setEntry (x := .cleared s.entries[e].data) (faultsSound_of_internal h i)
      (by rw [i.entries]; exact hne) nofun rfl) rfl rfl rfl rfl
  | releaseToFaulted e k c s he hk hp =>
    have i := respondAll_internal s.entries[e].waiters (.error .memory) s
    have hne : s.entries[e].state ≠ .faulted := by rw [he]; decide
    exact faultsSound_added (f := faultRecordOf s e c)
      (x := { s.entries[e] with state := .faulted, waiters := [], faultSlot := some k }) (faultsSound_of_internal h i)
      (by rw [i.faults]; exact hk) (by rw [i.entries]; exact hne) rfl rfl ⟨rfl, rfl, rfl, rfl⟩ rfl rfl rfl rfl
  | releaseToHeld e s he hp =>
    have hne : s.entries[e].state ≠ .faulted := by rw [he]; decide
    exact faultsSound_of_eq (faultsSound_setEntry
      (x := { s.entries[e] with state := .held, attempts := 0, lastCause := none }) h hne nofun (h.unfaulted e hne))
      rfl rfl rfl rfl
  | noteFailure e n c s he hp =>
    have hne : s.entries[e].state ≠ .faulted := by rw [he]; decide
    exact faultsSound_setEntry h hne hne (h.unfaulted e hne)
  | retry e s he hg hc =>
    obtain ⟨k, f, hk, -, -⟩ := h.recorded e he
    have i := removeRecordOf_of_slot hk
    exact faultsSound_removed h he hk (x := { (removeRecordOf e s).entries[e] with
        state := .held, seq := (removeRecordOf e s).seqCounter, allocTime := (removeRecordOf e s).timestamp,
        merges := 0,
        attempts := 0, lastCause := none, expedite := true, waiters := [], faultSlot := none }) nofun rfl
      (by show (removeRecordOf e s).entries.set e _ = _; rw [removeRecordOf_entries]) i.faults i.faultOrder
      (congrArg (fun c : Counts => c.faulted - 1) i.counts)
  | discard e s he =>
    obtain ⟨k, f, hk, -, -⟩ := h.recorded e he
    have i := removeRecordOf_of_slot hk
    exact faultsSound_removed h he hk (x := .cleared (removeRecordOf e s).entries[e].data) nofun rfl
      (by show (removeRecordOf e s).entries.set e _ = _; rw [removeRecordOf_entries]) i.faults i.faultOrder
      (congrArg (fun c : Counts => c.faulted - 1) i.counts)
  | refuseWaiters e s => exact faultsSound_refuseWaiters h e
  | _ => exact { h with }

/-- A store of cleared entries alone and an empty fault list. -/
theorem faultsSound_of_cleared (he : ∀ e : EntryIx, ∃ d, s.entries[e] = .cleared d)
    (hf : ∀ k : FaultIx, s.faults[k] = none)
    (ho : s.faultOrder = []) (hn : s.counts.faulted = 0) : FaultsSound s where
  named k f h := by rw [hf k] at h; cases h
  recorded e h := by
    obtain ⟨d, hd⟩ := he e
    rw [hd] at h
    cases h
  unfaulted e _ := by
    obtain ⟨d, hd⟩ := he e
    rw [hd]
    rfl
  once := by rw [ho]; exact .nil
  ordered k := by rw [ho, hf k]; simp
  number := by rw [ho, hn]; rfl

theorem faults_reset (k : FaultIx) : State.reset.faults[k] = none := getElem_replicate_fin none k

theorem faultsSound_reset : FaultsSound State.reset :=
  faultsSound_of_cleared (fun e => ⟨_, entries_reset e⟩) faults_reset rfl rfl

theorem faultsSound_warmReset (s : State) : FaultsSound (warmReset s) :=
  faultsSound_of_cleared (fun e => ⟨_, entries_warmReset s e⟩) faults_reset rfl rfl

theorem faultsSound_endReset (h : FaultsSound s) : FaultsSound (endReset s) := by
  rcases endReset_cases s with e | ⟨-, e⟩ <;> rw [e]
  · exact h
  · exact { h with }

end Faults

end Sys2Proof.Proofs

namespace Sys2Proof.Settled

open Sys2Proof Sys2Proof.Machine Sys2Proof.Proofs

/-- Settles O8: a record is added and removed in the very move that takes its entry into FAULTED and out of it. -/
theorem everyStepKeepsTheFaultList : Obligations.EveryStepKeepsTheFaultList := by
  intro s t hs h
  exact step_keeps_of_moves (fun _ _ _ _ h => { h with }) (fun _ _ _ _ m h => move_faultsSound m h)
    (fun _ => { faultsSound_reset with }) (fun s _ => faultsSound_warmReset s) (fun _ h => faultsSound_endReset h) hs h

end Sys2Proof.Settled

/-! PROOFS. The shared operations field by field: a wake cause (R145), a response (R192), the waits under STALL (R49) and
the tests that end a transition (R60, R120, R139), each with what it leaves unchanged. -/

namespace Sys2Proof.Proofs

open Sys2Proof Sys2Proof.Machine

/-! ## A wake cause (R145) -/

section Wake

variable {s : State}

/-- R145: the power record after a wake cause. -/
def wokenPower (s : State) : Power :=
  match s.power.state with
  | .entering => { s.power with notedWake := true }
  | .asleep => { s.power with state := .waking, attempt := 1, wakeTimer := some s.regs.wakeLimit.toNat }
  | .awake | .waking | .unavailable => s.power

/-- R146: what a wake cause sends. -/
def wakeMessages (s : State) : List DownMessage :=
  match s.power.state with
  | .asleep => [.wakeRequest]
  | .awake | .entering | .waking | .unavailable => []

theorem takeWake_eq (s : State) :
    takeWake s = { s with power := wokenPower s, downstreamOut := s.downstreamOut ++ wakeMessages s } := by
  unfold takeWake wokenPower wakeMessages
  cases s.power.state <;> simp [setPower, wakeAttempt, sendDown]

@[simp] theorem takeWake_power : (takeWake s).power = wokenPower s := by rw [takeWake_eq]
@[simp] theorem takeWake_initiators : (takeWake s).initiators = s.initiators := by rw [takeWake_eq]
@[simp] theorem takeWake_upstreamOut : (takeWake s).upstreamOut = s.upstreamOut := by rw [takeWake_eq]
@[simp] theorem takeWake_entries : (takeWake s).entries = s.entries := by rw [takeWake_eq]
@[simp] theorem takeWake_seqCounter : (takeWake s).seqCounter = s.seqCounter := by rw [takeWake_eq]
@[simp] theorem takeWake_counts : (takeWake s).counts = s.counts := by rw [takeWake_eq]
@[simp] theorem takeWake_reads : (takeWake s).reads = s.reads := by rw [takeWake_eq]
@[simp] theorem takeWake_groups : (takeWake s).groups = s.groups := by rw [takeWake_eq]
@[simp] theorem takeWake_drains : (takeWake s).drains = s.drains := by rw [takeWake_eq]
@[simp] theorem takeWake_slots : (takeWake s).slots = s.slots := by rw [takeWake_eq]
@[simp] theorem takeWake_passRetries : (takeWake s).passRetries = s.passRetries := by rw [takeWake_eq]
@[simp] theorem takeWake_pressure : (takeWake s).pressure = s.pressure := by rw [takeWake_eq]
@[simp] theorem takeWake_opp : (takeWake s).opp = s.opp := by rw [takeWake_eq]
@[simp] theorem takeWake_faultOrder : (takeWake s).faultOrder = s.faultOrder := by rw [takeWake_eq]
@[simp] theorem takeWake_regs : (takeWake s).regs = s.regs := by rw [takeWake_eq]

@[simp] theorem wokenPower_sleepCountdown (s : State) : (wokenPower s).sleepCountdown = s.power.sleepCountdown := by
  unfold wokenPower; split <;> rfl

/-- R145: a wake cause enters and leaves neither AWAKE nor UNAVAILABLE. -/
theorem wokenPower_awake (s : State) : (wokenPower s).state = .awake ↔ s.power.state = .awake := by
  unfold wokenPower
  split <;> simp_all

/-- R145: a wake cause changes nothing in a power state other than ENTERING and ASLEEP. -/
theorem takeWake_of_ignored (he : s.power.state ≠ .entering) (ha : s.power.state ≠ .asleep) : takeWake s = s := by
  unfold takeWake
  split
  · next h => exact absurd h he
  · next h => exact absurd h ha
  all_goals rfl

end Wake

/-! ## A response (R192) -/

section Respond

variable (i : InitIx) (u : UpTag) (r : Response) (s : State)

/-- R192: initiator j's record once tag u of initiator i has left the outstanding set. -/
def withoutTag (i : InitIx) (u : UpTag) (j : InitIx) (q : Initiator) : Initiator :=
  if j = i then { q with tags := q.tags &&& ~~~(1#16 <<< u.toNat) } else q

theorem respond_eq :
    respond i u r s =
      { s with
        upstreamOut := s.upstreamOut ++ [.response (BitVec.ofNat 3 i.val) u r]
        initiators := (respond i u r s).initiators } := rfl

theorem respond_initiator (j : InitIx) : (respond i u r s).initiators[j] = withoutTag i u j s.initiators[j] := by
  show (s.initiators.set i _)[j] = _
  rw [getElem_set_fin, withoutTag]
  split
  · next h => rw [h]
  · rfl

/-- R192: the one tag that a response drops, among the sixteen. -/
theorem getLsbD_dropped (tags : BitVec 16) (u n : UpTag) :
    (tags &&& ~~~(1#16 <<< u.toNat)).getLsbD n.toNat = (tags.getLsbD n.toNat && !decide (n = u)) := by
  have hn : n.toNat < 16 := n.isLt
  have hone : (1#16 <<< u.toNat).getLsbD n.toNat = decide (n = u) := by
    rw [BitVec.getLsbD_shiftLeft, BitVec.getLsbD_one]
    have hiff : (n = u) ↔ n.toNat = u.toNat := BitVec.toNat_inj.symm
    simp only [hn, decide_true, Bool.true_and, hiff]
    by_cases h : n.toNat < u.toNat
    · simp [h, Nat.ne_of_lt h]
    · simp only [h, decide_false, Bool.not_false, Bool.true_and]
      rw [show decide (0 < 16) = true from rfl, Bool.true_and, decide_eq_decide]
      omega
  rw [BitVec.getLsbD_and, BitVec.getLsbD_not, hone]
  simp [hn]

theorem withoutTag_head (j : InitIx) (q : Initiator) : (withoutTag i u j q).head = q.head := by
  unfold withoutTag; split <;> rfl

theorem withoutTag_tag (j : InitIx) (q : Initiator) (n : UpTag) :
    (withoutTag i u j q).tags.getLsbD n.toNat =
      (q.tags.getLsbD n.toNat && !(decide (j = i) && decide (n = u))) := by
  unfold withoutTag
  split
  · next h => rw [getLsbD_dropped]; simp [h]
  · next h => simp [h]

end Respond

/-! ## A list of responses (R10, R82, R109, R110) -/

/-- What answers each element of a list with its initiator, tag and response. -/
structure Answering {α : Type} (f : State → α → State) (who : α → InitIx) (tag : α → UpTag)
    (what : State → α → Response) :
    Prop where
  each : ∀ s a, f s a = respond (who a) (tag a) (what s a) s
  stays : ∀ s i u r a, what (respond i u r s) a = what s a

section Answering

variable {α : Type} {f : State → α → State} {who : α → InitIx} {tag : α → UpTag} {what : State → α → Response}

/-- Answering a list sends its responses in list order and changes nothing else but the outstanding sets. -/
theorem Answering.fold_eq (h : Answering f who tag what) (l : List α) (s : State) :
    l.foldl f s =
      { s with
        upstreamOut := s.upstreamOut ++ l.map fun a => .response (BitVec.ofNat 3 (who a).val) (tag a) (what s a)
        initiators := (l.foldl f s).initiators } := by
  induction l generalizing s with
  | nil => simp
  | cons a l ih =>
    have hw (b : α) : what (f s a) b = what s b := by rw [h.each, h.stays]
    rw [List.foldl_cons, ih (f s a)]
    simp only [hw]
    rw [h.each, respond_eq]
    simp only [List.map_cons, List.append_assoc, List.singleton_append]

/-- The outstanding sets lose the tags answered; queues, heads and credits stay. -/
theorem Answering.fold_initiator (h : Answering f who tag what) (l : List α) (s : State) (i : InitIx) :
    (l.foldl f s).initiators[i] = { s.initiators[i] with tags := (l.foldl f s).initiators[i].tags } ∧
      ∀ n : UpTag, (l.foldl f s).initiators[i].tags.getLsbD n.toNat =
        (s.initiators[i].tags.getLsbD n.toNat && !(l.any fun a => who a == i && tag a == n)) := by
  induction l generalizing s with
  | nil => exact ⟨rfl, fun n => by simp⟩
  | cons a l ih =>
    obtain ⟨hrest, htags⟩ := ih (f s a)
    have hq : (f s a).initiators[i] = withoutTag (who a) (tag a) i s.initiators[i] := by
      rw [h.each, respond_initiator]
    rw [List.foldl_cons]
    refine ⟨?_, fun n => ?_⟩
    · rw [hrest, hq]
      unfold withoutTag
      split <;> rfl
    · have hwho : decide (i = who a) = (who a == i) := by
        rw [Bool.eq_iff_iff, decide_eq_true_iff, beq_iff_eq]; exact eq_comm
      have htag : decide (n = tag a) = (tag a == n) := by
        rw [Bool.eq_iff_iff, decide_eq_true_iff, beq_iff_eq]; exact eq_comm
      rw [htags, hq, withoutTag_tag, List.any_cons, hwho, htag, Bool.not_or, Bool.and_assoc]

end Answering

theorem respondAll_answering (r : Response) :
    Answering (fun s (w : Waiter) => respond w.initiator w.tag r s) Waiter.initiator Waiter.tag fun _ _ => r :=
  ⟨fun _ _ => rfl, fun _ _ _ _ _ => rfl⟩

theorem refuseRead_answering (c : ErrorCause) :
    Answering (refuseRead c) PendingRead.initiator PendingRead.tag fun _ _ => .error c :=
  ⟨fun _ _ => rfl, fun _ _ _ _ _ => rfl⟩

theorem answerDrain_answering :
    Answering answerDrain Drain.initiator Drain.tag fun s d => drainAnswer s d.groups d.mark :=
  ⟨fun _ _ => rfl, fun _ _ _ _ _ => rfl⟩

theorem refuseDrain_answering : Answering refuseDrain Drain.initiator Drain.tag fun _ _ => .error .unavailable :=
  ⟨fun _ _ => rfl, fun _ _ _ _ _ => rfl⟩

/-! ## The waits (R49, R60) -/

section Waits

variable {s t : State}

theorem endStalls_initiator (s : State) (i : InitIx) : (endStalls s).initiators[i] = endStall s.initiators[i] :=
  getElem_map_fin _ _ i

/-- R60: the end of the waits moves heads alone. -/
theorem endWait_rest (s : State) (q : Initiator) :
    (endWait s q).queue = q.queue ∧ (endWait s q).tags = q.tags ∧ (endWait s q).credits = q.credits := by
  unfold endWait
  split
  · split <;> exact ⟨rfl, rfl, rfl⟩
  · exact ⟨rfl, rfl, rfl⟩

/-- R60: a head is to be decided again where its wait is over, and otherwise stands. -/
theorem endWait_head (s : State) (q : Initiator) :
    ((∃ r rest c, q.queue = r :: rest ∧ q.head = .waiting c ∧ waitOver s r c = true) ∧
        (endWait s q).head = .undecided) ∨
      ((∀ r rest c, q.queue = r :: rest → q.head = .waiting c → waitOver s r c = false) ∧ endWait s q = q) := by
  unfold endWait
  split
  · next c r rest hh hq =>
    split
    · next ho => exact .inl ⟨⟨r, rest, c, hq, hh, ho⟩, rfl⟩
    · next ho =>
      refine .inr ⟨fun r' rest' c' hq' hh' => ?_, rfl⟩
      cases hq.symm.trans hq'
      cases hh.symm.trans hh'
      simpa using ho
  · next hn => exact .inr ⟨fun r rest c hq hh => absurd hq (hn c r rest hh), rfl⟩

theorem endWait_stalls (s : State) (q : Initiator) : headStalls (endWait s q) = headStalls q := by
  rcases endWait_head s q with ⟨⟨r, rest, c, hq, hh, ho⟩, he⟩ | ⟨-, he⟩
  · unfold headStalls
    rw [he, hh]
    cases c <;> first | rfl | cases ho
  · rw [he]

theorem endWait_isPass (s : State) (l : LineAddr) (q : Initiator) : headIsPass l (endWait s q) = headIsPass l q := by
  rcases endWait_head s q with ⟨⟨r, rest, c, hq, hh, ho⟩, he⟩ | ⟨-, he⟩
  · unfold headIsPass
    rw [he, hh]
  · rw [he]

/-- What is asked of each head alone is asked alike after a change of the heads that keeps it. -/
theorem any_map_eq {p : Initiator → Bool} {f : Initiator → Initiator} {n : Nat} (h : ∀ q, p (f q) = p q)
    (v : Vector Initiator n) : (v.map f).any p = v.any p := by
  rw [Vector.any_map]
  exact congrArg _ (funext h)

/-- A line's outstanding writes, as the heads, the slots and the retries give them. -/
theorem lineHasPass_congr (l : LineAddr) (hi : t.initiators.any (headIsPass l) = s.initiators.any (headIsPass l))
    (hs : t.slots.any (slotCarriesPass l) = s.slots.any (slotCarriesPass l)) (hp : t.passRetries = s.passRetries) :
    lineHasPass t l = lineHasPass s l := by
  unfold lineHasPass
  rw [hi, hs, hp]

/-- What the end of a wait is read from. -/
theorem waitOver_congr (r : Request) (hreads : t.reads = s.reads) (hentries : t.entries = s.entries)
    (hpass : ∀ l, lineHasPass t l = lineHasPass s l) (hdrains : t.drains = s.drains) (c : WaitCause) :
    waitOver t r c = waitOver s r c := by
  have hlookup (l : LineAddr) : lookup t l = lookup s l := by unfold lookup; rw [hentries]
  have hin (l : LineAddr) (a : EntryState) : lineIn t l a = lineIn s l a := by
    unfold lineIn; rw [hlookup, hentries]
  unfold waitOver
  cases c with
  | pendingRead b => simp only [lineHasRead, hreads, hin]
  | passThrough => simp only [hpass]
  | releasing => simp only [hin]
  | waitersFull => simp only [waitersFull, hlookup, hentries]
  | stall => rfl
  | readListFull => simp only [hreads]
  | drainListFull => simp only [hdrains]

end Waits

/-! ## The pressure test (R120, R121) -/

section Pressure

variable {s t : State}

/-- R120: pressure after its test. -/
def testedPressure (s : State) : Bool := if s.pressure then !pressureEnd s else pressureStart s

/-- R121: pressure starts outside the halt, which is a wake cause. -/
def pressureWakes (s : State) : Bool := !s.pressure && pressureStart s && !halted s

/-- The state whose power record and messages the pressure test leaves. -/
def pressureWoken (s : State) : State := if pressureWakes s then takeWake s else s

theorem takeWake_setPressure (b : Bool) (s : State) :
    takeWake { s with pressure := b } = { takeWake s with pressure := b } := by
  rw [takeWake_eq, takeWake_eq]
  rfl

theorem pressureTest_eq (s : State) : pressureTest s = { pressureWoken s with pressure := testedPressure s } := by
  have hh (b : Bool) : halted { s with pressure := b } = halted s := rfl
  unfold pressureTest pressureWoken pressureWakes testedPressure
  rcases hp : s.pressure with _ | _ <;> rcases hs : pressureStart s with _ | _ <;> rcases hx : halted s with _ | _ <;>
    rcases he : pressureEnd s with _ | _ <;> simp [hh, hx, takeWake_setPressure]
  all_goals rw [← hp]

/-- The pressure test keeps what it does not speak of: it takes a wake cause at most. -/
theorem pressureWoken_cases (s : State) : pressureWoken s = s ∨ pressureWoken s = takeWake s := by
  unfold pressureWoken
  split
  · exact .inr rfl
  · exact .inl rfl

theorem pressureWoken_frame (s : State) :
    pressureWoken s =
      { s with power := (pressureWoken s).power, downstreamOut := (pressureWoken s).downstreamOut } := by
  rcases pressureWoken_cases s with h | h <;> rw [h]
  rw [takeWake_eq]

@[simp] theorem pressureWoken_sleepCountdown (s : State) :
    (pressureWoken s).power.sleepCountdown = s.power.sleepCountdown := by
  rcases pressureWoken_cases s with h | h <;> simp [h]

end Pressure

/-! ## The tests that end a transition -/

section Settle

variable {s t : State}

/-- The state that the idle test finds: pressure tested and the waits that are over ended. -/
def tested (s : State) : State :=
  { pressureWoken s with pressure := testedPressure s, initiators := s.initiators.map (endWait s) }

theorem endWait_pressureTest (s : State) : endWait (pressureTest s) = endWait s := by
  funext q
  have hw (r : Request) (c : WaitCause) : waitOver (pressureTest s) r c = waitOver s r c := by
    rw [pressureTest_eq, pressureWoken_frame]
    exact waitOver_congr r rfl rfl (fun _ => rfl) rfl c
  unfold endWait
  split
  · rw [hw]
  · rfl

theorem endWaits_pressureTest (s : State) : endWaits (pressureTest s) = tested s := by
  unfold endWaits
  rw [endWait_pressureTest, pressureTest_eq]
  rcases pressureWoken_cases s with h | h <;> simp only [tested, h, takeWake_initiators]

theorem settle_eq (s : State) : settle s = idleTest (tested s) := by rw [settle, endWaits_pressureTest]

theorem tested_frame (s : State) :
    tested s =
      { s with
        pressure := testedPressure s, initiators := s.initiators.map (endWait s)
        power := (pressureWoken s).power, downstreamOut := (pressureWoken s).downstreamOut } := by
  rcases pressureWoken_cases s with h | h <;> simp only [tested, h, takeWake_eq]

/-- The countdown conditions do not speak of the countdown. -/
theorem countdownRuns_setCountdown (c : Option Nat) (s : State) :
    countdownRuns (setPower { s.power with sleepCountdown := c } s) = countdownRuns s := rfl

theorem countdownRuns_settle (s : State) : countdownRuns (settle s) = countdownRuns (tested s) := by
  rw [settle_eq]
  rfl

/-- R139: the sleep countdown after the tests. -/
def settledCountdown (s : State) : Option Nat :=
  if countdownRuns (tested s) then some (s.power.sleepCountdown.getD s.regs.sleepDelay.toNat) else none

theorem settle_frame (s : State) :
    settle s =
      { s with
        pressure := testedPressure s, initiators := s.initiators.map (endWait s)
        power := { (pressureWoken s).power with sleepCountdown := settledCountdown s }
        downstreamOut := (pressureWoken s).downstreamOut } := by
  have hc : (tested s).power.sleepCountdown.getD (tested s).regs.sleepDelay.toNat =
      s.power.sleepCountdown.getD s.regs.sleepDelay.toNat := by
    rw [tested_frame]
    show (pressureWoken s).power.sleepCountdown.getD _ = _
    rw [pressureWoken_sleepCountdown]
  rw [settle_eq, idleTest, hc]
  unfold settledCountdown
  generalize (if countdownRuns (tested s) = true then _ else _ : Option Nat) = c
  rw [tested_frame]
  rfl

@[simp] theorem settle_pending : (settle s).pending = s.pending := by rw [settle_frame]
@[simp] theorem settle_resetPin : (settle s).resetPin = s.resetPin := by rw [settle_frame]
@[simp] theorem settle_initiators : (settle s).initiators = s.initiators.map (endWait s) := by rw [settle_frame]
@[simp] theorem settle_upstreamOut : (settle s).upstreamOut = s.upstreamOut := by rw [settle_frame]
@[simp] theorem settle_regions : (settle s).regions = s.regions := by rw [settle_frame]
@[simp] theorem settle_entries : (settle s).entries = s.entries := by rw [settle_frame]
@[simp] theorem settle_ageList : (settle s).ageList = s.ageList := by rw [settle_frame]
@[simp] theorem settle_seqCounter : (settle s).seqCounter = s.seqCounter := by rw [settle_frame]
@[simp] theorem settle_counts : (settle s).counts = s.counts := by rw [settle_frame]
@[simp] theorem settle_reads : (settle s).reads = s.reads := by rw [settle_frame]
@[simp] theorem settle_groups : (settle s).groups = s.groups := by rw [settle_frame]
@[simp] theorem settle_drains : (settle s).drains = s.drains := by rw [settle_frame]
@[simp] theorem settle_slots : (settle s).slots = s.slots := by rw [settle_frame]
@[simp] theorem settle_passRetries : (settle s).passRetries = s.passRetries := by rw [settle_frame]
@[simp] theorem settle_pressure : (settle s).pressure = testedPressure s := by rw [settle_frame]
@[simp] theorem settle_opp : (settle s).opp = s.opp := by rw [settle_frame]
@[simp] theorem settle_faults : (settle s).faults = s.faults := by rw [settle_frame]
@[simp] theorem settle_faultOrder : (settle s).faultOrder = s.faultOrder := by rw [settle_frame]
@[simp] theorem settle_counters : (settle s).counters = s.counters := by rw [settle_frame]
@[simp] theorem settle_regs : (settle s).regs = s.regs := by rw [settle_frame]

theorem settle_power (s : State) :
    (settle s).power = { (pressureWoken s).power with sleepCountdown := settledCountdown s } := by rw [settle_frame]

theorem settle_downstreamOut (s : State) : (settle s).downstreamOut = (pressureWoken s).downstreamOut := by
  rw [settle_frame]

theorem settle_initiator (s : State) (i : InitIx) : (settle s).initiators[i] = endWait s s.initiators[i] := by
  rw [settle_initiators, getElem_map_fin]

/-- R120: what the pressure conditions are read from. -/
theorem pressureStart_congr (hr : t.regs = s.regs) (hc : t.counts = s.counts) (ho : t.opp = s.opp)
    (hw : stallWaiting t = stallWaiting s) : pressureStart t = pressureStart s := by
  unfold pressureStart
  rw [hr, hc, ho, hw]

theorem pressureEnd_congr (hr : t.regs = s.regs) (hc : t.counts = s.counts) (ho : t.opp = s.opp)
    (hw : stallWaiting t = stallWaiting s) : pressureEnd t = pressureEnd s := by
  unfold pressureEnd
  rw [pressureStart_congr hr hc ho hw, hr, hc, hw]

theorem settle_stallWaiting (s : State) : stallWaiting (settle s) = stallWaiting s := by
  unfold stallWaiting
  rw [settle_initiators]
  exact any_map_eq (endWait_stalls s) _

theorem settle_lineHasPass (s : State) (l : LineAddr) : lineHasPass (settle s) l = lineHasPass s l := by
  refine lineHasPass_congr l ?_ (by rw [settle_slots]) settle_passRetries
  rw [settle_initiators]
  exact any_map_eq (endWait_isPass s l) _

theorem settle_waitOver (s : State) (r : Request) (c : WaitCause) : waitOver (settle s) r c = waitOver s r c :=
  waitOver_congr r settle_reads settle_entries (settle_lineHasPass s) settle_drains c

theorem settle_pressureStart (s : State) : pressureStart (settle s) = pressureStart s :=
  pressureStart_congr settle_regs settle_counts settle_opp (settle_stallWaiting s)

theorem settle_pressureEnd (s : State) : pressureEnd (settle s) = pressureEnd s :=
  pressureEnd_congr settle_regs settle_counts settle_opp (settle_stallWaiting s)

/-- R120: the start condition shuts the end condition out. -/
theorem pressureEnd_of_start (h : pressureStart s = true) : pressureEnd s = false := by
  unfold pressureEnd
  rw [h, Bool.not_true, Bool.and_false]

/-- Whatever the state was, its tests have been taken once they end a transition. -/
theorem settle_testsTaken (s : State) : TestsTaken (settle s) where
  starts h := by
    rw [settle_pressureStart] at h
    rw [settle_pressure, testedPressure, pressureEnd_of_start h, h]
    exact ite_self _
  ends h := by
    rw [settle_pressureEnd] at h
    rw [settle_pressure, testedPressure, h]
    split
    · rfl
    · rcases hs : pressureStart s with _ | _
      · rfl
      · rw [pressureEnd_of_start hs] at h
        cases h
  waits i r rest c hq hh := by
    rw [settle_initiator] at hq hh
    rw [settle_waitOver]
    rcases endWait_head s s.initiators[i] with ⟨-, he⟩ | ⟨hover, he⟩
    · rw [he] at hh
      cases hh
    · rw [he] at hq hh
      exact hover r rest c hq hh
  countdown := by
    rw [countdownRuns_settle, settle_frame]
    show (settledCountdown s).isSome = _
    unfold settledCountdown
    split
    · next h => exact h.symm
    · next h => simpa using h

end Settle

end Sys2Proof.Proofs

namespace Sys2Proof.Settled

open Sys2Proof Sys2Proof.Machine Sys2Proof.Proofs

/-- Settles O20: the three tests are read off their composition (`settle_frame`), each head by the end of its wait. -/
theorem settleTakesTheTests : Obligations.SettleTakesTheTests := by
  intro s
  have hwoken : (if !s.pressure && pressureStart s && !halted s then takeWake s else s) = pressureWoken s := rfl
  refine ⟨settle_testsTaken s, ?_, settle_pressure, ?_, fun i => ?_⟩
  · conv_lhs => rw [settle_frame]
    rw [settle_pressure, settle_initiators, settle_frame]
    rfl
  · rw [countdownRuns_settle, hwoken, settle_frame]
    rfl
  · obtain ⟨hq, ht, hc⟩ := endWait_rest s s.initiators[i]
    rw [settle_initiator]
    refine ⟨hq, ht, hc, ?_⟩
    rcases endWait_head s s.initiators[i] with ⟨⟨r, rest, c, hr, hh, ho⟩, he⟩ | ⟨hover, he⟩
    · refine ⟨.inr he, fun _ => ⟨r, rest, c, hr, hh, ho⟩, fun _ => ?_⟩
      rw [he, hh]
      exact nofun
    · rw [he]
      refine ⟨.inl rfl, fun hn => absurd rfl hn, fun ⟨r, rest, c, hr, hh, ho⟩ => ?_⟩
      rw [hover r rest c hr hh] at ho
      cases ho

/-- Settles O19: R145 by the power state. -/
theorem wakeCauseTaken : Obligations.WakeCauseTaken := by
  intro s
  unfold takeWake
  cases s.power.state <;> rfl

/-- Settles O22: a response drops its tag and is sent, and the head that leaves returns its credit. -/
theorem answersAndCredits : Obligations.AnswersAndCredits := by
  intro i tag x s
  refine ⟨⟨_, rfl, respond_eq i tag x s, fun j => ?_⟩, rfl, rfl⟩
  rw [respond_initiator]
  refine ⟨?_, fun n => withoutTag_tag i tag j _ n⟩
  unfold withoutTag
  split <;> rfl

end Sys2Proof.Settled

/-! PROOFS. The machine's steps and resets (R24, R158), the transitions of the power state (R137), what is sent downstream
(R115) and the events that are not due. -/

namespace Sys2Proof.Proofs

open Sys2Proof Sys2Proof.Machine

/-! ## The queue and the line requests across moves -/

/-- What each step of a fold keeps, the fold keeps. -/
theorem foldl_keeps {α β : Type} {f : State → α → State} (g : State → β) (h : ∀ s a, g (f s a) = g s) (l : List α)
    (s : State) : g (l.foldl f s) = g s := by
  induction l generalizing s with
  | nil => rfl
  | cons a l ih => rw [List.foldl_cons, ih, h]

section Across

variable {s t : State} {b : Port} {k : MoveKind}

/-- A move leaves the queue alone, and only a grant's move sends a line request (R115, R195). -/
theorem move_frame (m : Move b k s t) :
    t.pending = s.pending ∧ (b ≠ .grants → lineRequests t = lineRequests s) := by
  cases m with
  | internal h => exact ⟨h.pending, fun _ => h.sent⟩
  | sendLine m _ h => exact ⟨rfl, fun hb => absurd h hb⟩
  | releaseToFree e =>
    have h := respondAll_internal s.entries[e].waiters .done s
    exact ⟨h.pending, fun _ => h.sent⟩
  | releaseToFaulted e =>
    have h := respondAll_internal s.entries[e].waiters (.error .memory) s
    exact ⟨h.pending, fun _ => h.sent⟩
  | retry e =>
    obtain ⟨_, _, h⟩ := removeRecordOf_internal e s
    exact ⟨h.pending, fun _ => h.sent⟩
  | discard e =>
    obtain ⟨_, _, h⟩ := removeRecordOf_internal e s
    exact ⟨h.pending, fun _ => h.sent⟩
  | refuseWaiters e =>
    unfold refuseWaiters
    dsimp only
    split
    · have h := respondAll_internal s.entries[e].waiters (.error .unavailable) s
      exact ⟨h.pending, fun _ => h.sent⟩
    · exact ⟨rfl, fun _ => rfl⟩
  | _ => exact ⟨rfl, fun _ => rfl⟩

theorem moves_pending {n p : Nat} (m : Moves b n p s t) : t.pending = s.pending :=
  m.keep (P := fun u => u.pending = s.pending) (fun _ _ _ m h => (move_frame m).1.trans h) rfl

theorem moves_lineRequests {n p : Nat} (hb : b ≠ .grants) (m : Moves b n p s t) : lineRequests t = lineRequests s :=
  m.keep (P := fun u => lineRequests u = lineRequests s) (fun _ _ _ m h => ((move_frame m).2 hb).trans h) rfl

end Across

/-- No command faults and none is refused (notes/assumptions/2.md). -/
theorem exec_answers (c : Instr) (s : State) : ∃ t, exec c s = .next t := by
  cases c <;> exact ⟨_, rfl⟩

theorem exec_pending {c : Instr} {s t : State} (h : exec c s = .next t) : t.pending = s.pending := by
  rcases exec_cases h with rfl | rfl | rfl | ⟨-, m⟩
  · rfl
  · unfold whileRunning
    split <;> rfl
  · rcases endReset_cases s with h | ⟨-, h⟩ <;> rw [h]
    rfl
  · exact moves_pending m

/-! ## A grant's line request (R115) -/

/-- R115: a grant's requester sends one line request. -/
theorem grantTo_sends (k : TagIx) (p : Presented) (s : State) :
    ∃ m, isLineRequest m = true ∧ (grantTo k p s).downstreamOut = s.downstreamOut ++ [m] := by
  cases p with
  | read r => exact ⟨_, rfl, rfl⟩
  | passRetry p => exact ⟨passMessage k p.write, rfl, rfl⟩
  | passNew i r => exact ⟨passMessage k (passWriteOf i r), rfl, rfl⟩
  | releaseRetry e => exact ⟨releaseMessage s k e, rfl, rfl⟩
  | releaseNew e => exact ⟨releaseMessage s k e, rfl, rfl⟩

theorem arbiterGrant_sends (s : State) :
    ∃ sent, lineRequests (arbiterGrant s) = lineRequests s ++ sent ∧ sent.length ≤ 1 := by
  have hnone : ∃ sent, lineRequests s = lineRequests s ++ sent ∧ sent.length ≤ 1 :=
    ⟨[], (List.append_nil _).symm, Nat.zero_le 1⟩
  unfold arbiterGrant
  split
  · split
    · next p k _ _ =>
      obtain ⟨m, hm, hsent⟩ := grantTo_sends k p s
      refine ⟨[m], ?_, Nat.le_refl 1⟩
      rw [(settle_internal _).sent, lineRequests, hsent, List.filter_append]
      simp [lineRequests, hm]
    · exact hnone
  · exact hnone

/-! ## The power state (R137) -/

/-- R137, R149, R151: what the statement on the power state asks of one command. -/
def PowerFollows (c : Instr) (a b : PowerState) : Prop :=
  powerStep a b = true ∧ (b = .unavailable → a = .unavailable ∨ c = .wakeTimerExpiry) ∧
    (a = .unavailable → b = .unavailable ∨ c = .recover)

/-- The power state stays, but for a wake that starts in ASLEEP (R145). -/
def StaysOrWakes (a b : PowerState) : Prop := b = a ∨ (a = .asleep ∧ b = .waking)

theorem StaysOrWakes.follows {c : Instr} {a b : PowerState} (h : StaysOrWakes a b) : PowerFollows c a b := by
  rcases h with rfl | ⟨rfl, rfl⟩
  · exact ⟨by cases b <;> rfl, .inl, .inl⟩
  · exact ⟨rfl, nofun, nofun⟩

theorem StaysOrWakes.trans {a b c : PowerState} (h : StaysOrWakes a b) (k : StaysOrWakes b c) : StaysOrWakes a c := by
  rcases h with rfl | ⟨rfl, rfl⟩
  · exact k
  · exact .inr ⟨rfl, k.elim id fun h => h.2⟩

theorem internal_powerState {s t : State} (h : Internal s t) : StaysOrWakes s.power.state t.power.state :=
  powerMoves_state h.power

/-- Outside ASLEEP the shared operations leave the power state alone. -/
theorem internal_powerState_eq {s t : State} (h : Internal s t) (ha : s.power.state ≠ .asleep) :
    t.power.state = s.power.state :=
  (internal_powerState h).resolve_right fun h => ha h.1

/-- Moves without a transition of the power state: it stays, but for a wake that starts in ASLEEP. -/
theorem moves_powerState {b : Port} {n : Nat} {s t : State} (m : Moves b n 0 s t) :
    StaysOrWakes s.power.state t.power.state := by
  generalize hp : 0 = p at m
  induction m with
  | done => exact .inl rfl
  | more _ m _ hle ih =>
    subst hp
    have hk := Nat.eq_zero_of_add_eq_zero_left (Nat.le_zero.1 hle)
    refine (ih (Nat.eq_zero_of_add_eq_zero_right (Nat.le_zero.1 hle)).symm).trans ?_
    rcases (move_power m).2 with h | h | ⟨rfl, -⟩
    · exact powerMoves_state h
    · exact .inl h.state
    · cases hk

theorem whileRunning_follows {c : Instr} {f : State → State} {s : State}
    (h : PowerFollows c s.power.state (f s).power.state) :
    PowerFollows c s.power.state (whileRunning f s).power.state := by
  unfold whileRunning
  split
  · exact h
  · exact StaysOrWakes.follows (.inl rfl)

/-- R177: a management command changes the power record where it is answered OK. -/
theorem manage_follows {c : Instr} {n : CommandName} {args : List Byte} {judge : State → Answer} {s : State}
    (h : (judge s).status = .ok → PowerFollows c s.power.state (judge s).after.power.state) :
    PowerFollows c s.power.state (manage n args judge s).power.state := by
  unfold manage atEffectPoint
  split
  · show PowerFollows c _ (answerState (judge s) s).power.state
    unfold answerState
    split
    · next hok => exact h hok
    · exact StaysOrWakes.follows (.inl rfl)
  · exact StaysOrWakes.follows (.inl rfl)

theorem requestSleep_follows {c : Instr} {s : State} (o : Bool) (h : s.power.state = .awake) :
    PowerFollows c s.power.state (requestSleep o s).power.state := by
  rw [h]
  exact ⟨rfl, nofun, nofun⟩

/-- R143, R147: the operations of an entry to AWAKE leave the power state there. -/
theorem enterAwake_powerState {s : State} (h : s.power.state = .awake) : (enterAwake s).power.state = .awake := by
  have hi : Internal (wakeReads s) (enterAwake s) := (clearPendingReleases_internal _).trans (settle_internal _)
  rw [internal_powerState_eq hi (by rw [show (wakeReads s).power = s.power from rfl, h]; nofun)]
  exact h

theorem refuseAllWaiters_power (s : State) : (refuseAllWaiters s).power = s.power := by
  refine foldl_keeps State.power (fun s e => ?_) _ s
  unfold refuseWaiters respondAll
  dsimp only
  split
  · rw [(respondAll_answering _).fold_eq]
    rfl
  · rfl

theorem refuseAllReads_power (s : State) : (refuseAllReads s).power = s.power := by
  rw [refuseAllReads, (refuseRead_answering _).fold_eq]

theorem refuseAllDrains_power (s : State) : (refuseAllDrains s).power = s.power := by
  rw [refuseAllDrains, refuseDrain_answering.fold_eq]

theorem refuseAllPassHeads_power (s : State) : (refuseAllPassHeads s).power = s.power := by
  refine foldl_keeps State.power (fun s i => ?_) _ s
  unfold refusePassHead
  split <;> rfl

theorem refuseAll_power (s : State) :
    (refuseAllPassHeads (refuseAllDrains (refuseAllReads (refuseAllWaiters s)))).power = s.power := by
  rw [refuseAllPassHeads_power, refuseAllDrains_power, refuseAllReads_power, refuseAllWaiters_power]

theorem enterUnavailable_powerState (s : State) : (enterUnavailable s).power.state = .unavailable := by
  unfold enterUnavailable
  dsimp only
  have h := refuseAll_power (setPower { s.power with state := .unavailable, wakeTimer := none } s)
  have hi := (endStalls_internal (refuseAllPassHeads (refuseAllDrains (refuseAllReads (refuseAllWaiters
    (setPower { s.power with state := .unavailable, wakeTimer := none } s)))))).trans (settle_internal _)
  rw [internal_powerState_eq hi (by rw [h]; nofun), h]
  rfl

/-- R137: the commands that move the power state themselves. -/
theorem exec_powerMoves {c : Instr} {s t : State} (hc : powerMoves c ≠ 0) (h : exec c s = .next t) :
    PowerFollows c s.power.state t.power.state := by
  have hraise : PowerFollows c s.power.state (raise .protocol s).power.state := StaysOrWakes.follows (.inl rfl)
  cases c <;> first | exact absurd rfl hc | skip
  all_goals cases h
  case sleepCountdownExpiry =>
    refine whileRunning_follows ?_
    split
    · next hd =>
      simp only [sleepDue, Bool.and_eq_true, beq_iff_eq] at hd
      exact requestSleep_follows _ hd.1.1
    · exact StaysOrWakes.follows (.inl rfl)
  case sleepAccept =>
    refine whileRunning_follows ?_
    unfold takeSleepAccept
    split
    · next he =>
      rw [he]
      unfold goAsleep
      dsimp only
      split <;> exact ⟨rfl, nofun, nofun⟩
    · exact hraise
  case sleepDecline =>
    refine whileRunning_follows ?_
    unfold takeSleepDecline
    split
    · next he =>
      rw [enterAwake_powerState rfl, he]
      exact ⟨rfl, nofun, nofun⟩
    · exact hraise
  case wakeReady =>
    refine whileRunning_follows ?_
    unfold takeWakeReady
    split
    · next he =>
      rw [enterAwake_powerState rfl, he]
      exact ⟨rfl, nofun, nofun⟩
    · exact hraise
  case wakeTimerExpiry =>
    refine whileRunning_follows ?_
    split
    · next hd =>
      simp only [wakeTimerDue, Bool.and_eq_true, beq_iff_eq] at hd
      rw [hd.1]
      unfold wakeTimeout
      split
      · exact ⟨rfl, nofun, nofun⟩
      · rw [enterUnavailable_powerState]
        exact ⟨rfl, fun _ => .inr rfl, nofun⟩
    · exact StaysOrWakes.follows (.inl rfl)
  case cycle =>
    refine manage_follows ?_
    unfold judgeCycle
    split
    · next hd =>
      simp only [Bool.and_eq_true, beq_iff_eq] at hd
      exact fun _ => requestSleep_follows _ hd.1
    · exact nofun
  case recover =>
    refine manage_follows ?_
    unfold judgeRecover
    split
    · next hd =>
      rw [show s.power.state = .unavailable by simpa [unavailable] using hd]
      exact fun _ => ⟨rfl, nofun, fun _ => .inr rfl⟩
    · exact nofun

/-! ## Events that are not due -/

theorem whileRunning_of_unchanged {f : State → State} {s : State} (h : f s = s) :
    (.next (whileRunning f s) : Host.Outcome State Fault Refusal) = .next s := by
  rw [whileRunning, h, ite_self]

/-- R58: no decision is taken where no request of the kind is to be decided. -/
theorem decision_of_none {i : InitIx} {kind : Request → Bool} {d : Request → State → State} {s : State}
    (h : decidable s i kind = none) : decision i kind d s = s := by
  unfold decision
  rw [h]

theorem decidable_of_not_undecided {i : InitIx} (kind : Request → Bool) {s : State}
    (h : s.initiators[i].queue = [] ∨ s.initiators[i].head ≠ .undecided) : decidable s i kind = none := by
  unfold decidable
  split
  · next hq hh =>
    rcases h with h | h
    · rw [hq] at h
      cases h
    · exact absurd hh h
  · rfl

theorem decidable_of_other_kind {i : InitIx} {kind : Request → Bool} {s : State} {r : Request} {rest : List Request}
    (hq : s.initiators[i].queue = r :: rest) (hk : kind r = false) (hu : r.kind ≠ 3) : decidable s i kind = none := by
  have hk' : (kind r || isUndefinedKind r) = false := by
    rw [hk, Bool.false_or]
    simpa [isUndefinedKind] using hu
  unfold decidable
  rw [hq]
  split
  · next heq _ =>
    cases heq
    rw [hk']
    rfl
  · rfl

/-- R175, R177: a command of the management link does nothing where no frame waits for its command byte. -/
theorem exec_of_not_takesCommand {c : Instr} {s : State} (hf : frameOf c ≠ none) (ht : takesCommand s = false) :
    exec c s = .next s := by
  have hquiet (n : CommandName) (args : List Byte) (judge : State → Answer) :
      (Host.Outcome.next (manage n args judge s) : Host.Outcome State Fault Refusal) = .next s := by
    rw [manage_of_not_takesCommand ht]
  cases c
  case unknownCommand b =>
    show Host.Outcome.next (if commandOfByte b = none then atEffectPoint b [] 0 (denied .unknown) s else s) = _
    rw [atEffectPoint_of_not_takesCommand ht, ite_self]
  all_goals first
    | exact absurd rfl hf
    | exact hquiet _ _ _

end Sys2Proof.Proofs

namespace Sys2Proof.Settled

open Sys2Proof Sys2Proof.Machine Sys2Proof.Proofs

/-- Settles O1: a step's case of a queue that is not empty. -/
theorem stepRunsTheFrontCommand : Obligations.StepRunsTheFrontCommand := by
  intro c rest s h
  unfold step
  rw [h]

/-- Settles O2: no constructor faults, and moves, resets and the end of a reset leave the queue alone. -/
theorem everyCommandCompletesAndKeepsTheQueue : Obligations.EveryCommandCompletesAndKeepsTheQueue := by
  refine ⟨fun s hp hs => ?_, fun c s => ?_⟩
  · unfold step whileNoCommand
    rw [hp, hs]
  · obtain ⟨t, h⟩ := exec_answers c s
    exact ⟨t, h, exec_pending h⟩

/-- Settles O15: the moves leave the power state alone or start a wake; the seven commands of its own are read one by
one. -/
theorem powerFollowsItsTransitions : Obligations.PowerFollowsItsTransitions := by
  intro c s t hs hp hw h
  show PowerFollows c s.power.state t.power.state
  by_cases hc : powerMoves c = 0
  · rcases exec_cases_of_not_reset hp hw h with ⟨rfl, rfl⟩ | ⟨-, m⟩
    · refine StaysOrWakes.follows (.inl ?_)
      by_cases hr : s.resetPin = .released
      · rw [endReset, if_pos (running_of_released hr)]
      · rw [(hs.resetting hr).1, endReset, if_neg fun h => hr (running_iff.1 h)]
        rfl
    · rw [hc] at m
      exact (moves_powerState m).follows
  · exact exec_powerMoves hc h

/-- Settles O16: a grant sends one line request, and no other command's moves send any. -/
theorem lineRequestsOnlyAtGrants : Obligations.LineRequestsOnlyAtGrants := by
  intro c s t hp hw h
  have hnone (ht : lineRequests t = lineRequests s) : ∃ sent : List DownMessage,
      t.downstreamOut.filter isLineRequest = s.downstreamOut.filter isLineRequest ++ sent ∧ sent.length ≤ 1 ∧
        (sent ≠ [] → c = .grant) :=
    ⟨[], ht.trans (List.append_nil _).symm, Nat.zero_le 1, fun h => absurd rfl h⟩
  rcases exec_cases_of_not_reset hp hw h with ⟨rfl, rfl⟩ | ⟨-, m⟩
  · refine hnone ?_
    rcases endReset_cases s with h | ⟨-, h⟩ <;> rw [h]
    simp [wakeAttempt, sendDown, lineRequests, isLineRequest]
  · by_cases hg : portOf c = .grants
    · cases c <;> cases hg
      cases h
      unfold whileRunning
      split
      · obtain ⟨sent, hsent, hlen⟩ := arbiterGrant_sends s
        exact ⟨sent, hsent, hlen, fun _ => rfl⟩
      · exact ⟨[], (List.append_nil _).symm, Nat.zero_le 1, fun _ => rfl⟩
    · exact hnone (moves_lineRequests hg m)

/-- Settles O17: each command whose event is not due takes the branch that leaves the state as it is. -/
theorem nothingWhereNotDue : Obligations.NothingWhereNotDue := by
  refine ⟨fun c s hs hp he hf hend => exec_under_reset hs hp he hf hend, fun i s h => ?_, fun i r rest s hq => ?_,
    fun s h => ?_, fun k s h => ?_, fun s h => ?_, fun s h => ?_, fun s h => ?_, fun g s => ?_,
    fun c s hf ht => exec_of_not_takesCommand hf ht, fun k s h3 h7 => ?_⟩
  · exact ⟨whileRunning_of_unchanged (decision_of_none (decidable_of_not_undecided _ h)),
      whileRunning_of_unchanged (decision_of_none (decidable_of_not_undecided _ h)),
      whileRunning_of_unchanged (decision_of_none (decidable_of_not_undecided _ h))⟩
  · exact
      ⟨fun hk hu => whileRunning_of_unchanged (decision_of_none
          (decidable_of_other_kind hq (by simpa [isWrite] using hk) hu)),
        fun hk hu => whileRunning_of_unchanged (decision_of_none
          (decidable_of_other_kind hq (by simpa [isRead] using hk) hu)),
        fun hk hu => whileRunning_of_unchanged (decision_of_none
          (decidable_of_other_kind hq (by simpa [isDrain] using hk) hu))⟩
  · exact whileRunning_of_unchanged (if_neg (by simp [h]))
  · refine whileRunning_of_unchanged ?_
    unfold timeoutSlot
    split
    · next op a n hk => rw [if_neg (by simp [h op a n hk])]
    all_goals rfl
  · exact whileRunning_of_unchanged (if_neg (by simp [h]))
  · exact whileRunning_of_unchanged (if_neg (by simp [h]))
  · exact whileRunning_of_unchanged (if_neg (by simpa using h))
  · refine ⟨fun h => whileRunning_of_unchanged (if_neg ?_), fun h => whileRunning_of_unchanged (if_neg ?_)⟩
    · rintro ⟨hs, hran⟩
      rcases h with h | h
      · exact h hs
      · rw [h] at hran
        cases hran
    · rintro ⟨hs, hm, hran⟩
      rcases h with h | h | h
      · exact h hs
      · exact h hm
      · rw [h] at hran
        cases hran
  · exact whileRunning_of_unchanged (if_neg (by simpa using ⟨h3, h7⟩))

end Sys2Proof.Settled

/-! PROOFS. The values after the pin resets (9.6, R24, R84, R88, R136, R173), and that they satisfy every invariant. -/

namespace Sys2Proof.Proofs

open Sys2Proof Sys2Proof.Machine

/-! ## What is asked of a table's places -/

section Any

variable {α : Type} {n : Nat} {v : Vector α n} {p : α → Bool}

theorem any_fin_iff : v.any p = true ↔ ∃ j : Fin n, p v[j] = true := by
  simp only [Vector.any_eq_true, Fin.exists_iff, Fin.getElem_fin]

theorem any_fin_false_iff : v.any p = false ↔ ∀ j : Fin n, p v[j] = false := by
  simp only [Vector.any_eq_false, Fin.forall_iff, Fin.getElem_fin, Bool.not_eq_true]

end Any

/-- R49: no STALL write waits. -/
theorem stallWaiting_false_iff {s : State} :
    stallWaiting s = false ↔ ∀ i : InitIx, s.initiators[i].head ≠ .waiting .stall := by
  simp only [stallWaiting, any_fin_false_iff, headStalls, beq_eq_false_iff_ne]

/-! ## The reset state satisfies the invariants -/

theorem groups_reset (g : GroupIx) : State.reset.groups[g] = .powerOn := getElem_replicate_fin _ g

theorem initiators_reset (i : InitIx) : State.reset.initiators[i] = .empty := getElem_replicate_fin _ i

theorem regions_reset (k : RegionIx) : State.reset.regions[k] = .powerOn := getElem_replicate_fin _ k

theorem groupHeld_reset (g : GroupIx) : State.reset.counts.groupHeld[g] = 0 := getElem_replicate_fin _ g

theorem quiet_powerOn : quiet .powerOn := ⟨rfl, rfl, rfl, rfl, rfl⟩

/-- R2, R88: with every group IDLE and at rest and every entry cleared the group records are sound. -/
theorem groupsSound_of_idle {s : State} (hg : ∀ g : GroupIx, s.groups[g].state = .idle ∧ quiet s.groups[g])
    (he : ∀ e : EntryIx, s.entries[e].state = .free) : GroupsSound s where
  resting g _ := (hg g).2
  holding g h := absurd ((hg g).1.symm.trans h) (by decide)
  closing g h := absurd ((hg g).1.symm.trans h) (by decide)
  owners e h := by
    rw [he e] at h
    rcases h with h | h <;> cases h

theorem free_reset (e : EntryIx) : State.reset.entries[e].state = .free := by rw [entries_reset]; rfl

theorem groupsSound_reset : GroupsSound State.reset :=
  groupsSound_of_idle (fun g => by rw [groups_reset]; exact ⟨rfl, quiet_powerOn⟩) free_reset

theorem powerSound_reset : PowerSound State.reset := by
  constructor <;> decide

theorem testsTaken_reset : TestsTaken State.reset where
  starts h := by
    have hstall : stallWaiting State.reset = false :=
      stallWaiting_false_iff.2 fun i => by rw [initiators_reset]; exact nofun
    rw [pressureStart, hstall] at h
    cases h
  ends _ := rfl
  waits i r rest c hq := by
    rw [initiators_reset] at hq
    cases hq
  countdown := rfl

/-- R165, R173: after a reset no cause reads as set but RESET_SEEN. -/
theorem attention_reset : attention State.reset = 0x1000 := by decide

/-! ## Register values across a warm reset -/

/-- 9.6: what a writable register's value is read from. -/
theorem registerValue_congr {s t : State} {r : Register} (hr : readOnly r = false) (hregs : t.regs = s.regs)
    (hstaged : t.power.staged = s.power.staged)
    (hgroup : ∀ g : GroupIx, t.groups[g].ageLimit = s.groups[g].ageLimit ∧ t.groups[g].relMode = s.groups[g].relMode ∧
      t.groups[g].relValue = s.groups[g].relValue ∧ t.groups[g].lineLimit = s.groups[g].lineLimit ∧
      t.groups[g].companions = s.groups[g].companions) : registerValue t r = registerValue s r := by
  cases r
  case ageLimit g => exact congrArg BitVec.toNat (hgroup g).1
  case relMode g => exact congrArg relModeCode (hgroup g).2.1
  case relValue g => exact congrArg BitVec.toNat (hgroup g).2.2.1
  case lineLimit g => exact congrArg BitVec.toNat (hgroup g).2.2.2.1
  case companions g => exact congrArg BitVec.toNat (hgroup g).2.2.2.2
  case windowPeriod => exact congrArg BitVec.toNat hstaged
  case id | attnStatus | wakes | sleeps | fullHits | throughWrites | retries | discardedLines | resetRecord => cases hr
  all_goals unfold registerValue; rw [hregs]

theorem groups_warmReset (s : State) (g : GroupIx) : (warmReset s).groups[g] = warmGroup s.groups[g] :=
  getElem_map_fin s.groups warmGroup g

end Sys2Proof.Proofs

namespace Sys2Proof.Settled

open Sys2Proof Sys2Proof.Machine Sys2Proof.Proofs

/-- Settles O5: each invariant at the reset state, field by field. -/
theorem resetIsSound : Obligations.ResetIsSound :=
  ⟨bounded_iff.2 ⟨queuesBounded_reset, retriesBounded_reset⟩, storeSound_reset, faultsSound_reset, groupsSound_reset,
    tagsFollowPower_of_empty slots_reset free_reset, releasesOwned_reset, powerSound_reset, registersSound_reset,
    testsTaken_reset⟩

/-- Settles O3: the state after the reset and its end is State.reset but for the inputs; its tables are read by index. -/
theorem powerOnResetValues : Obligations.PowerOnResetValues := by
  intro s
  refine ⟨powerOnReset s,
    { State.reset with pending := s.pending, chipSelectLow := s.chipSelectLow, serialIn := s.serialIn },
    rfl, rfl, rfl, rfl, rfl, rfl, rfl, rfl, rfl, rfl, fun i => ?_, fun k => ?_, entries_reset, rfl, rfl, rfl, rfl, rfl,
    groupHeld_reset, rfl, rfl, rfl, slots_reset, rfl, rfl, rfl, fun g => ?_, rfl, rfl, rfl, rfl, rfl, rfl, rfl, rfl,
    faults_reset, rfl, attention_reset, rfl, rfl, fun r hr => ?_⟩
  · show State.reset.initiators[i].queue = [] ∧ State.reset.initiators[i].tags = 0 ∧
      State.reset.initiators[i].credits = 4
    rw [initiators_reset]
    exact ⟨rfl, rfl, rfl⟩
  · show State.reset.regions[k].valid = false ∧ State.reset.regions[k].base = 0 ∧ State.reset.regions[k].sizeLog = 12 ∧
      State.reset.regions[k].policy = .pass ∧ State.reset.regions[k].readClass = .urgent
    rw [regions_reset]
    exact ⟨rfl, rfl, rfl, rfl, rfl⟩
  · show State.reset.groups[g].state = .idle ∧ quiet State.reset.groups[g]
    rw [groups_reset]
    exact ⟨rfl, quiet_powerOn⟩
  · have hgroup (g : GroupIx) : State.reset.groups[g] = .powerOn := groups_reset g
    cases r
    case ageLimit g => exact congrArg (fun x : Group => x.ageLimit.toNat) (hgroup g)
    case relMode g => exact congrArg (fun x : Group => relModeCode x.relMode) (hgroup g)
    case relValue g => exact congrArg (fun x : Group => x.relValue.toNat) (hgroup g)
    case lineLimit g => exact congrArg (fun x : Group => x.lineLimit.toNat) (hgroup g)
    case companions g => exact congrArg (fun x : Group => x.companions.toNat) (hgroup g)
    case id | attnStatus | wakes | sleeps | fullHits | throughWrites | retries | discardedLines | resetRecord => cases hr
    all_goals rfl

/-- Settles O4: the warm reset's record field by field, its tables by index, and its end as the one wake attempt. -/
theorem warmResetKeeps : Obligations.WarmResetKeeps := by
  refine ⟨fun s hs => ?_, fun s hs => ?_, fun s hs => ?_⟩
  · refine ⟨warmReset s, next_whileRunning hs rfl, rfl, entries_warmReset s, groups_warmReset s, ?_, rfl,
      fun r hr => ?_⟩
    · show { warmPower s.power with wakeTimer := none } = _
      rw [warmPower, windowStart_eq]
      rfl
    · refine registerValue_congr hr rfl rfl fun g => ?_
      rw [groups_warmReset]
      exact ⟨rfl, rfl, rfl, rfl, rfl⟩
  · refine ⟨congrArg _ (whileRunning_of_not_released hs), ?_⟩
    show Host.Outcome.next (endReset s) = _
    rw [endReset, if_neg fun h => hs (running_iff.1 h)]
    rfl
  · show Host.Outcome.next (endReset s) = _
    rw [endReset, if_pos (running_of_released hs)]

end Sys2Proof.Settled

/-! PROOFS. Lookup and the waits (R4, R42, R43, R60), classification (R28 to R32) and arrival (R191, R192). -/

namespace Sys2Proof.Proofs

open Sys2Proof Sys2Proof.Machine

/-! ## Lookup (R4) -/

section Lookup

variable {s : State} {l : LineAddr}

theorem lookup_none_iff : lookup s l = none ↔ ∀ e : EntryIx, s.entries[e].state ≠ .free → s.entries[e].line ≠ l := by
  unfold lookup
  rw [List.find?_eq_none]
  simp only [List.mem_finRange, forall_const, Bool.and_eq_true, bne_iff_ne, beq_iff_eq, not_and]

/-- R4: under StoreSound at most one entry carries a line, which lookup finds. -/
theorem lookup_some_iff (h : StoreSound s) {e : EntryIx} :
    lookup s l = some e ↔ s.entries[e].state ≠ .free ∧ s.entries[e].line = l := by
  refine ⟨lookup_bound, fun ⟨hb, hl⟩ => ?_⟩
  rcases hf : lookup s l with _ | f
  · exact absurd hl (lookup_none_iff.1 hf e hb)
  · obtain ⟨hfb, hfl⟩ := lookup_bound hf
    rw [h.lines f e hfb hb (hfl.trans hl.symm)]

/-- The line's entry is not in a state: it has none, or one in another state. -/
theorem lineIn_eq_false_iff {a : EntryState} :
    lineIn s l a = false ↔ ∀ e, lookup s l = some e → s.entries[e].state ≠ a := by
  unfold lineIn
  rcases lookup s l with _ | e
  · simp
  · simp

/-- R42: no pending read of the line. -/
theorem lineHasRead_eq_false_iff : lineHasRead s l = false ↔ ∀ p ∈ s.reads, lineOf p.address ≠ l := by
  simp [lineHasRead]

/-- R52: the line's entry takes another durable waiter. -/
theorem waitersFull_eq_false_iff :
    waitersFull s l = false ↔
      ∀ e, lookup s l = some e → s.entries[e].state = .held → s.entries[e].waiters.length < 3 := by
  unfold waitersFull
  rcases lookup s l with _ | e
  · simp
  · simp [Config.maxWaiters]

/-- R43: where a pass-through write of the line is. -/
theorem headIsPass_iff {q : Initiator} :
    headIsPass l q = true ↔ ∃ r rest, q.head = .passThrough ∧ q.queue = r :: rest ∧ requestLine r = l := by
  unfold headIsPass
  split
  · next r rest hh hq => simp [hh, hq]
  · next hn =>
    simp only [Bool.false_eq_true, false_iff, not_exists, not_and]
    exact fun r rest hh hq => absurd hq (hn r rest hh)

theorem slotCarriesPass_iff {x : Slot} :
    slotCarriesPass l x = true ↔ ∃ w a n, x = .busy (.pass w) a n ∧ lineOf w.address = l := by
  unfold slotCarriesPass
  split
  · next w a n => simp
  all_goals simp

end Lookup

/-! ## Byte positions (R4) -/

/-- R4: the positions asked for run from the offset for the length. -/
theorem getLsbD_positions (a : Addr) (n : Nat) {p : Nat} (hp : p < 64) :
    (positions a n).getLsbD p = true ↔ a.toNat % 64 ≤ p ∧ p < a.toNat % 64 + n := by
  rw [positions, BitVec.getLsbD_ofNat, Nat.testBit_mul_two_pow, Nat.testBit_two_pow_sub_one]
  simp only [hp, decide_true, Bool.true_and, Bool.and_eq_true, decide_eq_true_eq,
      show a.toNat % 64 = offsetOf a from rfl]
  omega

theorem placed_at {a : Addr} {bs : List Byte} {p : Fin 64} {k : Nat} (hk : k < bs.length)
    (hp : p.val = a.toNat % 64 + k) : bs[k]? = some (placed a bs)[p] := by
  have hle : offsetOf a ≤ p.val := by unfold offsetOf; omega
  have hsub : p.val - offsetOf a = k := by unfold offsetOf; omega
  rw [placed, Fin.getElem_fin, Vector.getElem_ofFn, if_pos hle, hsub, List.getD_eq_getElem?_getD,
      List.getElem?_eq_getElem hk]
  rfl

/-! ## Classification (R28 to R32) -/

section Classify

variable {s : State} {r : Request} {x : Region}

theorem requestPolicy_of_matched (h : Machine.matchingRegion s r.address = some x) : requestPolicy s r = x.policy := by
  simp [requestPolicy, h]

theorem requestClass_of_matched (h : Machine.matchingRegion s r.address = some x) :
    requestClass s r = if hasUrgent r then .urgent else x.readClass := by
  simp [requestClass, h]

theorem policyDurable_iff {p : Policy} : policyDurable p = true ↔ ∃ g, p = .hold g true := by
  cases p <;> simp [policyDurable]

/-- R28: the addresses of a line meet a region of 4 KiB or more, aligned to its size, together. -/
theorem contains_of_line {a : Addr} (h : storable x) (hv : x.valid = true) :
    contains x a = true ↔
      x.base.toNat / 64 ≤ (lineOf a).toNat ∧ (lineOf a).toNat < x.base.toNat / 64 + 2 ^ (x.sizeLog - 6) := by
  obtain ⟨hlow, -, halign⟩ := h.1 hv
  have hline : (lineOf a).toNat = a.toNat / 64 := by
    have := a.isLt
    simp only [lineOf, BitVec.extractLsb'_toNat, Nat.shiftRight_eq_div_pow]
    omega
  have hsize : 2 ^ x.sizeLog = 64 * 2 ^ (x.sizeLog - 6) := by
    rw [show (64 : Nat) = 2 ^ 6 from rfl, ← Nat.pow_add]
    congr 1
    omega
  have hbase : x.base.toNat % 64 = 0 := by
    rw [hsize] at halign
    exact Nat.mod_eq_zero_of_dvd (Dvd.dvd.trans (Dvd.intro _ rfl) (Nat.dvd_of_mod_eq_zero halign))
  rw [contains_eq_true_iff, hline, hsize]
  generalize 2 ^ (x.sizeLog - 6) = m
  omega

end Classify

/-! ## Arrival (R191, R192) -/

theorem initiatorOf_eq {n : BitVec 3} {i : InitIx} (h : n.toNat = i.val) : initiatorOf n = some i := by
  unfold initiatorOf
  rw [dif_pos (by rw [h]; exact i.isLt)]
  exact congrArg some (Fin.ext h)

theorem initiatorOf_eq_none {n : BitVec 3} (h : 6 ≤ n.toNat) : initiatorOf n = none :=
  dif_neg (Nat.not_lt.2 h)

end Sys2Proof.Proofs

namespace Sys2Proof.Settled

open Sys2Proof Sys2Proof.Machine Sys2Proof.Proofs

/-- Settles O21: each wait's end is the negation of what it waits on, read by the line's entry and the lists. -/
theorem waitsAndTheirEnds : Obligations.WaitsAndTheirEnds := by
  intro s r
  have hread : (!lineHasRead s (requestLine r)) = true ↔ ∀ p ∈ s.reads, lineOf p.address ≠ requestLine r := by
    rw [Bool.not_eq_true', lineHasRead_eq_false_iff]
  have hrel : (!lineIn s (requestLine r) .releasing) = true ↔
      ∀ e, lookup s (requestLine r) = some e → s.entries[e].state ≠ .releasing := by
    rw [Bool.not_eq_true', lineIn_eq_false_iff]
  refine ⟨?_, ?_, ?_, hrel, ?_, rfl, decide_eq_true_iff, decide_eq_true_iff, rfl, fun i => ?_⟩
  · simp only [waitOver, Bool.false_and, Bool.or_false, hread]
  · simp only [waitOver, Bool.true_and, Bool.or_eq_true, hread, hrel]
  · simp only [waitOver, Bool.not_eq_true']
  · simp only [waitOver, Bool.not_eq_true', waitersFull_eq_false_iff]
  · rw [endStalls_initiator, endStall]
    simp only [headStalls, beq_iff_eq]

/-- Settles O27: the three functions of classification at a matching entry. -/
theorem classification : Obligations.Classification := by
  intro s r x h
  refine ⟨requestPolicy_of_matched h, ?_, ?_⟩
  · rw [requestClass_of_matched h]
    unfold hasUrgent
    split
    · next hu => exact iff_of_true rfl (.inr hu)
    · next hu => exact ⟨.inl, fun h => h.resolve_right hu⟩
  · rw [requestDurable, requestPolicy_of_matched h, Bool.or_eq_true, policyDurable_iff]
    rfl

/-- Settles O28: a region's addresses are those of a range of lines (`contains_of_line`). -/
theorem regionsHoldWholeLines : Obligations.RegionsHoldWholeLines := by
  intro s k a b hs hv hline
  rw [Bool.eq_iff_iff, contains_of_line (hs.regions k) hv, contains_of_line (hs.regions k) hv, hline]

/-- Settles O29: lookup by the uniqueness of lines, positions bit by bit, and the three places of a pass-through write. -/
theorem lookupAndLineOrder : Obligations.LookupAndLineOrder := by
  refine ⟨fun s l h => ⟨lookup_none_iff, fun e => lookup_some_iff h⟩,
    fun a n bs p => ⟨getLsbD_positions a n p.isLt, fun k hk hp => placed_at hk hp⟩, fun s l => ?_⟩
  unfold lineHasPass
  simp only [Bool.or_eq_true, any_fin_iff, headIsPass_iff, slotCarriesPass_iff, List.any_eq_true, beq_iff_eq, or_assoc]
  rfl

/-- Settles O30: the arrival's branches, by the initiator number, the queue's length and the outstanding set. -/
theorem arrivalQueuedOrDiscarded : Obligations.ArrivalQueuedOrDiscarded := by
  intro r s hr
  refine ⟨fun i hi => next_whileRunning hr ?_, fun h => next_whileRunning hr ?_⟩
  · unfold upstreamArrival
    rw [initiatorOf_eq hi]
    rfl
  · unfold upstreamArrival
    rw [initiatorOf_eq_none h]
    rfl

end Sys2Proof.Settled

/-! PROOFS. The decisions at queue heads (R41, R64, R106), branch by branch. -/

namespace Sys2Proof.Proofs

open Sys2Proof Sys2Proof.Machine

/-! ## A search by index -/

/-- A search of the indices in increasing order finds the lowest that passes. -/
theorem find_finRange_iff {n : Nat} {p : Fin n → Bool} {k : Fin n} :
    (List.finRange n).find? p = some k ↔ p k = true ∧ ∀ j : Fin n, j < k → p j = false := by
  rw [← List.ofFn_id, List.find?_ofFn_eq_some]
  constructor
  · rintro ⟨hk, j, rfl, hlow⟩
    exact ⟨hk, fun i hi => by simpa using hlow i hi⟩
  · rintro ⟨hk, hlow⟩
    exact ⟨hk, k, rfl, fun j hj => by simpa using hlow j hj⟩

theorem find_finRange_none_iff {n : Nat} {p : Fin n → Bool} :
    (List.finRange n).find? p = none ↔ ∀ j : Fin n, p j = false := by
  simp only [List.find?_eq_none, List.mem_finRange, forall_const, Bool.not_eq_true]

/-! ## From the head to its decision (R58) -/

section Decision

variable {s : State} {i : InitIx} {r : Request}

theorem decision_at_head {kind : Request → Bool} (d : Request → State → State) (h : AtHead s i r)
    (hk : kind r = true ∨ r.kind = 3) : decision i kind d s = settle (d r s) := by
  obtain ⟨-, hh, rest, hq⟩ := h
  have hkind : (kind r || isUndefinedKind r) = true := by
    simpa [isUndefinedKind] using hk
  have hd : decidable s i kind = some r := by
    unfold decidable
    rw [hq, hh]
    exact if_pos hkind
  unfold decision
  rw [hd]

theorem exec_writeDecision {t : State} (h : AtHead s i r) (hk : isWrite r = true ∨ r.kind = 3)
    (ht : decideWrite i r s = t) : exec (.writeDecision i) s = .next (settle t) :=
  next_whileRunning h.1 ((decision_at_head _ h hk).trans (congrArg settle ht))

theorem exec_readDecision {t : State} (h : AtHead s i r) (hk : isRead r = true ∨ r.kind = 3)
    (ht : decideRead i r s = t) : exec (.readDecision i) s = .next (settle t) :=
  next_whileRunning h.1 ((decision_at_head _ h hk).trans (congrArg settle ht))

theorem exec_drainDecision {t : State} (h : AtHead s i r) (hk : isDrain r = true ∨ r.kind = 3)
    (ht : decideDrain i r s = t) : exec (.drainDecision i) s = .next (settle t) :=
  next_whileRunning h.1 ((decision_at_head _ h hk).trans (congrArg settle ht))

end Decision

/-! ## What makes a request malformed (R193) -/

theorem kind_cases (k : BitVec 2) : k = 0 ∨ k = 1 ∨ k = 2 ∨ k = 3 := by
  revert k
  decide

theorem badExtent_iff {r : Request} :
    badExtent r = true ↔
      r.length = 0 ∨ 64 < r.length.toNat ∨ 64 < r.address.toNat % 64 + r.length.toNat ∨ r.groups ≠ 0 := by
  have hz : r.length.toNat = 0 ↔ r.length = 0 := by
    rw [BitVec.toNat_eq]
    rfl
  simp only [badExtent, show r.address.toNat % 64 = offsetOf r.address from rfl, Bool.or_eq_true, beq_iff_eq,
      decide_eq_true_eq, bne_iff_ne, hz, or_assoc]

theorem malformed_iff {r : Request} : malformed r = true ↔
    r.kind = 3 ∨
    ((r.kind = 0 ∨ r.kind = 1) ∧
      (r.length = 0 ∨ 64 < r.length.toNat ∨ 64 < r.address.toNat % 64 + r.length.toNat ∨ r.groups ≠ 0)) ∨
    (r.kind = 0 ∧ (r.attributes.getLsbD 0 = true ∨ r.data ≠ [])) ∨
    (r.kind = 1 ∧ r.data.length ≠ r.length.toNat) ∨
    (r.kind = 2 ∧ (r.length ≠ 0 ∨ r.attributes ≠ 0 ∨ r.data ≠ [])) := by
  rw [← badExtent_iff]
  rcases kind_cases r.kind with h | h | h | h <;>
    simp [malformed, isRead, isWrite, isDrain, hasDurable, h, or_assoc]

/-! ## Writes (R41) -/

section Write

variable {s : State} {i : InitIx} {r : Request} {e : EntryIx} {g : GroupIx}

theorem decideWrite_malformed (h : malformed r = true) :
    decideWrite i r s = raise .protocol (answerHead i r.tag (.error .malformed) s) := if_pos h

theorem decideWrite_checked (h : malformed r = false) (hb : requestPolicy s r ≠ .block) :
    decideWrite i r s =
      if lineHasRead s (requestLine r) then wait (.pendingRead (lineIn s (requestLine r) .releasing)) i s
      else if lineHasPass s (requestLine r) then wait .passThrough i s
      else decideByStore i r s := by
  unfold decideWrite
  dsimp only
  rw [h, if_neg (by decide), if_neg hb]

theorem decideWrite_admitted (h : WriteAdmitted s i r) : decideWrite i r s = decideByStore i r s := by
  obtain ⟨⟨-, hm, hb⟩, -, hread, hpass⟩ := h
  rw [decideWrite_checked hm hb, hread, hpass]
  rfl

/-- Steps 4 to 8 of R41: an admitted write's decision is that of the store. -/
theorem exec_writeAdmitted {t : State} (h : WriteAdmitted s i r) (ht : decideByStore i r s = t) :
    exec (.writeDecision i) s = .next (settle t) :=
  exec_writeDecision h.1.1 (.inl h.2.1) ((decideWrite_admitted h).trans ht)

theorem decideByStore_held (h : lookup s (requestLine r) = some e) (ha : s.entries[e].state = .held) :
    decideByStore i r s = decideHeld e i r s := by
  unfold decideByStore
  rw [h]
  dsimp only
  rw [ha]

theorem decideByStore_releasing (h : lookup s (requestLine r) = some e) (ha : s.entries[e].state = .releasing) :
    decideByStore i r s = wait .releasing i s := by
  unfold decideByStore
  rw [h]
  dsimp only
  rw [ha]

theorem decideByStore_faulted (h : lookup s (requestLine r) = some e) (ha : s.entries[e].state = .faulted) :
    decideByStore i r s = refuse .faultedLine i r s := by
  unfold decideByStore
  rw [h]
  dsimp only
  rw [ha]

theorem decideByStore_miss (h : lookup s (requestLine r) = none) : decideByStore i r s = decideMiss i r s := by
  unfold decideByStore
  rw [h]

theorem exec_writeMisses {t : State} (h : WriteMisses s i r) (ht : decideMiss i r s = t) :
    exec (.writeDecision i) s = .next (settle t) :=
  exec_writeAdmitted h.1 ((decideByStore_miss h.2).trans ht)

theorem decideMiss_holds (h : Holds s r g) : decideMiss i r s = decideAllocation g i r s := by
  obtain ⟨⟨d, hp⟩, hg⟩ := h
  unfold decideMiss
  rw [hp]
  exact if_pos hg

theorem decideMiss_passes (h : ∀ g, ¬Holds s r g) : decideMiss i r s = decidePass i r s := by
  unfold decideMiss
  split
  · next g d hp => exact if_neg fun hg => h g ⟨⟨d, hp⟩, hg⟩
  all_goals rfl

theorem unavailable_iff : unavailable s = true ↔ s.power.state = .unavailable := by simp [unavailable]

theorem unavailable_false (h : s.power.state ≠ .unavailable) : unavailable s = false := by
  simpa [unavailable] using h

/-- R7: no entry is taken where the allocation fails. -/
theorem allocatable_fails (h : AllocationFails s) : allocatable s = none := by
  unfold allocatable
  split
  · rfl
  · next hc =>
    rcases h with h | h
    · exact absurd (beq_iff_eq.2 h) hc
    · exact find_finRange_none_iff.2 fun e => by simpa using h e

theorem allocatable_lowest (hc : s.seqCounter ≠ BitVec.allOnes 48) (h : LowestFree s e) : allocatable s = some e := by
  unfold allocatable
  rw [if_neg (by simpa [topSeq] using hc)]
  exact find_finRange_iff.2 ⟨by simpa using h.1, fun j hj => by simpa using h.2 j hj⟩

theorem decideAllocation_fails (h : AllocationFails s) :
    decideAllocation g i r s = if unavailable s then refuse .unavailable i r s else decideByFullPolicy i s := by
  unfold decideAllocation
  rw [allocatable_fails h]

theorem decideAllocation_refused (hu : s.power.state = .unavailable)
    (h : AllocationFails s ∨ requestDurable s r = true) : decideAllocation g i r s = refuse .unavailable i r s := by
  have hu' := unavailable_iff.2 hu
  unfold decideAllocation
  split
  · next e he =>
    rcases h with h | h
    · rw [allocatable_fails h] at he
      cases he
    · rw [hu', h]
      rfl
  · exact if_pos hu'

theorem decideHeld_durable (hd : requestDurable s r = true) :
    decideHeld e i r s =
      if unavailable s then refuse .unavailable i r s
      else if Config.maxWaiters ≤ s.entries[e].waiters.length then wait .waitersFull i s
      else mergeWrite e i r true s := if_pos hd

theorem decideHeld_posted (hd : requestDurable s r = false) : decideHeld e i r s = mergeWrite e i r false s :=
  if_neg (by rw [hd]; exact nofun)

/-- R9: the merge count stops at 65535. -/
theorem countUp_toNat (n : BitVec 16) :
    (if n == BitVec.allOnes 16 then n else n + 1).toNat = min (n.toNat + 1) 65535 := by
  have hn := n.isLt
  split
  · next h =>
    rw [beq_iff_eq] at h
    subst h
    rfl
  · next h =>
    have hne : n.toNat ≠ 65535 := fun h' => h (beq_iff_eq.2 (BitVec.eq_of_toNat_eq h'))
    rw [BitVec.toNat_add]
    show (n.toNat + 1) % 65536 = _
    omega

theorem overlay_at (m : Mask) (new old : Line) (p : Fin 64) :
    (overlay m new old)[p] = if m.getLsbD p.val then new[p] else old[p] := by
  rw [overlay, Fin.getElem_fin, Vector.getElem_ofFn]

/-- R6: allocation writes the record of its entry and no other. -/
theorem allocate_self {l : LineAddr} {m : Mask} {b : Line} {ws : List Waiter} :
    (allocate e l g m b ws s).entries[e] = newEntry s e l g m b ws :=
  (getElem_set_fin ..).trans (if_pos rfl)

theorem allocate_other {l : LineAddr} {m : Mask} {b : Line} {ws : List Waiter} {f : EntryIx} (hf : f ≠ e) :
    (allocate e l g m b ws s).entries[f] = s.entries[f] :=
  (getElem_set_fin ..).trans (if_neg hf)

end Write

/-! ## The tests after a refusal -/

section Quiet

variable {s t : State} {i : InitIx}

theorem stallWaiting_congr (h : ∀ j : InitIx, headStalls t.initiators[j] = headStalls s.initiators[j]) :
    stallWaiting t = stallWaiting s := by
  rw [Bool.eq_iff_iff]
  simp only [stallWaiting, any_fin_iff, h]

/-- A head that does not wait under STALL is answered: the STALL writes stand as they did. -/
theorem answerHead_stallWaiting (u : UpTag) (x : Response) (h : s.initiators[i].head = .undecided) :
    stallWaiting (answerHead i u x s) = stallWaiting s := by
  refine stallWaiting_congr fun j => ?_
  show headStalls ((respond i u x s).initiators.set i _)[j] = _
  rw [getElem_set_fin]
  split
  · next hj => rw [hj, headStalls, headStalls, h]
  · next hj => rw [respond_initiator, headStalls, headStalls, withoutTag_head]

/-- Where a transition has changed nothing that the pressure test reads, the test leaves pressure, the power state and
what is sent as they were. -/
theorem settle_quiet (hw : stallWaiting t = stallWaiting s) (hr : t.regs = s.regs) (hc : t.counts = s.counts)
    (ho : t.opp = s.opp) (hp : t.pressure = s.pressure) (hd : t.downstreamOut = s.downstreamOut ∧ t.power = s.power)
    (hs : TestsTaken s) :
    (settle t).pressure = s.pressure ∧ (settle t).downstreamOut = s.downstreamOut ∧
      (settle t).power = { s.power with sleepCountdown := (settle t).power.sleepCountdown } := by
  have hstart := pressureStart_congr hr hc ho hw
  have hend := pressureEnd_congr hr hc ho hw
  have hwoken : pressureWoken t = t := by
    unfold pressureWoken pressureWakes
    rw [hstart, hp]
    rcases hx : pressureStart s with _ | _
    · rw [Bool.and_false, Bool.false_and, if_neg (by decide)]
    · rw [hs.starts hx]
      rfl
  have htested : testedPressure t = s.pressure := by
    unfold testedPressure
    rw [hstart, hend, hp]
    rcases hx : s.pressure with _ | _
    · rcases hy : pressureStart s with _ | _
      · rfl
      · exact absurd (hs.starts hy) (by rw [hx]; exact nofun)
    · rcases hy : pressureEnd s with _ | _
      · rfl
      · exact absurd (hs.ends hy) (by rw [hx]; exact nofun)
  refine ⟨settle_pressure.trans htested, ?_, ?_⟩
  · rw [settle_downstreamOut, hwoken]
    exact hd.1
  · rw [settle_power, hwoken, hd.2]

end Quiet

/-! ## Reads (R64) -/

section Read

variable {s : State} {i : InitIx} {r : Request} {e : EntryIx}

theorem decideRead_checked (h : malformed r = false) (hb : requestPolicy s r ≠ .block) :
    decideRead i r s =
      if lineHasPass s (requestLine r) then wait .passThrough i s else decideReadByStore i r s := by
  unfold decideRead
  rw [h, if_neg (by decide), if_neg hb]

/-- Steps 4 to 8 of R64: an admitted read's decision is that of the store. -/
theorem exec_readAdmitted {t : State} (h : ReadAdmitted s i r) (ht : decideReadByStore i r s = t) :
    exec (.readDecision i) s = .next (settle t) := by
  obtain ⟨⟨hat, hm, hb⟩, hk, hpass⟩ := h
  refine exec_readDecision hat (.inl hk) ?_
  rw [decideRead_checked hm hb, hpass]
  exact ht

theorem decideReadByStore_hit (h : lookup s (requestLine r) = some e) :
    decideReadByStore i r s =
      if s.entries[e].state = .faulted then refuse .faultedLine i r s
      else if covers s.entries[e].mask (requestMask r) then fullHit e i r s
      else decideMemoryRead i r s := by
  unfold decideReadByStore
  rw [h]

theorem decideReadByStore_needsMemory (h : NeedsMemory s r) : decideReadByStore i r s = decideMemoryRead i r s := by
  rcases hl : lookup s (requestLine r) with _ | e
  · unfold decideReadByStore
    rw [hl]
  · obtain ⟨hf, hc⟩ := h e hl
    rw [decideReadByStore_hit hl, if_neg hf, hc]
    rfl

theorem covers_of_subset {m w : Mask} (h : ∀ p : Nat, w.getLsbD p = true → m.getLsbD p = true) :
    covers m w = true := by
  unfold covers
  rw [beq_iff_eq]
  refine BitVec.eq_of_getLsbD_eq fun p hp => ?_
  rw [BitVec.getLsbD_and, BitVec.getLsbD_not]
  rcases hw : w.getLsbD p with _ | _
  · simp
  · simp [h p hw, hp]

/-- R66: the bytes asked for, in address order. -/
theorem bytesAt_length (a : Addr) (n : Nat) (bytes : Line) : (bytesAt a n bytes).length = n := by
  simp [bytesAt]

theorem bytesAt_at {a : Addr} {n k : Nat} {bytes : Line} {p : Fin 64} (hk : k < n) (hp : p.val = a.toNat % 64 + k) :
    (bytesAt a n bytes)[k]? = some bytes[p] := by
  have hlt : offsetOf a + k < bytes.toList.length := by
    rw [Vector.length_toList]
    exact hp ▸ p.isLt
  rw [bytesAt, List.getElem?_map, List.getElem?_range hk, Option.map_some, List.getD_eq_getElem?_getD,
    List.getElem?_eq_getElem hlt, Option.getD_some]
  simp only [Vector.getElem_toList, Fin.getElem_fin, hp]
  rfl

end Read

/-! ## Drains (R106) -/

section Drain

variable {s : State} {i : InitIx} {r : Request} {m : Seq}

theorem newest_none (h : s.seqCounter = 0) : newest s = none := if_pos (beq_iff_eq.2 h)

theorem newest_of_ne (h : s.seqCounter ≠ 0) : newest s = some (s.seqCounter - 1) := if_neg fun h' => h (beq_iff_eq.1 h')

theorem newest_some (h : s.seqCounter = m + 1) (h0 : s.seqCounter ≠ 0) : newest s = some m := by
  rw [newest_of_ne h0, h]
  exact congrArg some (BitVec.add_sub_cancel m 1)

/-- R106: an entry that the drain covers. -/
theorem drainCovers_iff {groups : BitVec 4} {x : Entry} :
    drainCovers groups m x = true ↔ groups.getLsbD x.group.val = true ∧ x.seq ≤ m := by
  simp only [drainCovers, Bool.and_eq_true, decide_eq_true_eq]

theorem drainHeldUp_iff {groups : BitVec 4} :
    drainHeldUp s groups m = true ↔ ∃ e : EntryIx,
      (groups.getLsbD s.entries[e].group.val = true ∧ s.entries[e].seq ≤ m) ∧
        (s.entries[e].state = .held ∨ s.entries[e].state = .releasing) := by
  simp only [drainHeldUp, any_fin_iff, Bool.and_eq_true, Bool.or_eq_true, beq_iff_eq, drainCovers_iff, and_comm]

theorem drainFaulted_iff {groups : BitVec 4} :
    drainFaulted s groups m = true ↔ ∃ e : EntryIx,
      (groups.getLsbD s.entries[e].group.val = true ∧ s.entries[e].seq ≤ m) ∧ s.entries[e].state = .faulted := by
  simp only [drainFaulted, any_fin_iff, Bool.and_eq_true, beq_iff_eq, drainCovers_iff, and_comm]

theorem decideDrain_done (hm : malformed r = false) (h : r.groups = 0 ∨ s.seqCounter = 0) :
    decideDrain i r s = answerHead i r.tag .done s := by
  unfold decideDrain
  rw [hm, if_neg (by decide)]
  split
  · rfl
  · next hg => rw [newest_none (h.resolve_left hg)]

theorem decideDrain_marked (hm : malformed r = false) (hg : r.groups ≠ 0) (hn : newest s = some m) :
    decideDrain i r s = decideMarkedDrain i r m s := by
  unfold decideDrain
  rw [hm, if_neg (by decide), if_neg hg, hn]

theorem decideMarkedDrain_answered (h : drainHeldUp s r.groups m = false) :
    decideMarkedDrain i r m s = answerHead i r.tag (drainAnswer s r.groups m) s :=
  if_pos (by rw [h]; rfl)

theorem decideMarkedDrain_waits (h : drainHeldUp s r.groups m = true) :
    decideMarkedDrain i r m s =
      if unavailable s then refuse .unavailable i r s
      else if Config.maxDrains ≤ s.drains.length then wait .drainListFull i s
      else enterDrain i r m s :=
  if_neg (by rw [h]; exact nofun)

/-- R106: a drain that names no group waits for nothing. -/
theorem groups_ne_zero (h : drainHeldUp s r.groups m = true) : r.groups ≠ 0 := by
  obtain ⟨e, ⟨hg, -⟩, -⟩ := drainHeldUp_iff.1 h
  rintro h0
  rw [h0] at hg
  simp at hg

end Drain

end Sys2Proof.Proofs

namespace Sys2Proof.Settled

open Sys2Proof Sys2Proof.Machine Sys2Proof.Proofs

/-- Settles O31: the malformed checks by the kind of the request, and the first two branches of the three decisions. -/
theorem refusedAtTheHead : Obligations.RefusedAtTheHead := by
  refine ⟨fun r => malformed_iff, fun i r s h => ⟨fun hm => ⟨fun hk => ?_, fun hk => ?_, fun hk => ?_⟩,
      fun hm hb => ?_⟩⟩
  · exact exec_readDecision h hk (if_pos hm)
  · exact exec_writeDecision h hk (decideWrite_malformed hm)
  · exact exec_drainDecision h hk (if_pos hm)
  · have hm' : ¬malformed r = true := by rw [hm]; exact nofun
    exact ⟨fun hk => exec_readDecision h (.inl hk) ((if_neg hm').trans (if_pos hb)),
      fun hk => exec_writeDecision h (.inl hk) ((if_neg hm').trans (if_pos hb))⟩

/-- Settles O32: the branch of each decision that refuses, and the tests after it, which find nothing to change. -/
theorem faultedLineRefused : Obligations.FaultedLineRefused := by
  intro i r e s hl he t
  refine ⟨fun h => exec_writeAdmitted h (decideByStore_faulted hl he),
    fun h => exec_readAdmitted h ((decideReadByStore_hit hl).trans (if_pos he)),
    settle_entries, settle_faults, settle_faultOrder, settle_counts, settle_ageList, settle_groups, settle_counters,
    settle_reads, fun h hs => ?_⟩
  exact settle_quiet (answerHead_stallWaiting r.tag (.error .faultedLine) h.2.1) rfl rfl rfl rfl ⟨rfl, rfl⟩ hs

/-- Settles O33: the write's branch is the merge, whose record is read field by field. -/
theorem writeMerges : Obligations.WriteMerges := by
  intro i r e s h hl he
  have hheld (t : State) (ht : decideHeld e i r s = t) : exec (.writeDecision i) s = .next (settle t) :=
    exec_writeAdmitted h ((decideByStore_held hl he).trans ht)
  refine ⟨mergedEntry s.entries[e] (requestMask r) (requestBytes r) [], ?_, countUp_toNat _,
      fun p => overlay_at _ _ _ p,
    fun hd => hheld _ (decideHeld_posted hd), fun hd hu hw => hheld _ ?_⟩
  · simp [mergedEntry]
  · rw [decideHeld_durable hd, unavailable_false hu, if_neg (by decide), if_neg (Nat.not_le.2 hw)]
    simp [mergeWrite, merge, mergedEntry, expediteWake, waiterOf]

/-- Settles O34: the write's branch is the allocation of the lowest FREE entry, whose record is `newEntry`. -/
theorem writeAllocates : Obligations.WriteAllocates := by
  intro i r g e s h hg hc he hu
  have hallocates (t : State) (ht : allocateWrite e g i r (requestDurable s r) s = t) :
      exec (.writeDecision i) s = .next (settle t) := by
    refine exec_writeMisses h ((decideMiss_holds hg).trans ?_)
    have hroom : (unavailable s && requestDurable s r) = false := by
      rcases hd : requestDurable s r with _ | _
      · exact Bool.and_false _
      · rw [unavailable_false (hu hd)]
        rfl
    unfold decideAllocation
    rw [allocatable_lowest hc he]
    dsimp only
    rw [hroom]
    exact ht
  rcases hd : requestDurable s r with _ | _ <;> rw [hd] at hallocates
  · refine ⟨allocate e (requestLine r) g (requestMask r) (requestBytes r) [] s, rfl,
      fun f hf => allocate_other hf, ?_, fun p => ?_, hallocates _ rfl⟩
    · rw [allocate_self]
      rfl
    · rw [allocate_self]
      exact overlay_at ..
  · refine ⟨allocate e (requestLine r) g (requestMask r) (requestBytes r) [waiterOf i r] s, rfl,
      fun f hf => allocate_other hf, ?_, fun p => ?_, hallocates _ rfl⟩
    · rw [allocate_self]
      rfl
    · rw [allocate_self]
      exact overlay_at ..

/-- Settles O36: a miss outside a HOLDING group's regions, and a failed allocation under THROUGH. -/
theorem writePassesThrough : Obligations.WritePassesThrough := by
  intro i r s h hu
  have hu' := unavailable_false hu
  refine ⟨fun hn => exec_writeMisses h ((decideMiss_passes hn).trans ?_),
    fun g hg hf hp => exec_writeMisses h ((decideMiss_holds hg).trans ?_)⟩
  · exact if_neg (by rw [hu']; exact nofun)
  · rw [decideAllocation_fails hf, hu', if_neg (by decide)]
    unfold decideByFullPolicy
    rw [hp]
    rfl

/-- Settles O37: the branch of each decision that UNAVAILABLE takes. -/
theorem unavailableRefusals : Obligations.UnavailableRefusals := by
  intro i r s hu
  have hu' := unavailable_iff.2 hu
  refine ⟨fun e h hl he hd => ?_, fun g h hg hf => ?_, fun h hn => ?_, fun h hn => ?_, fun m h hk hm hn hw => ?_⟩
  · refine exec_writeAdmitted h ((decideByStore_held hl he).trans ?_)
    rw [decideHeld_durable hd, if_pos hu']
    rfl
  · exact exec_writeMisses h ((decideMiss_holds hg).trans (decideAllocation_refused hu hf))
  · exact exec_writeMisses h ((decideMiss_passes hn).trans (if_pos hu'))
  · exact exec_readAdmitted h ((decideReadByStore_needsMemory hn).trans (if_pos hu'))
  · refine exec_drainDecision h (.inl hk) ((decideDrain_marked hm (groups_ne_zero hw) hn).trans ?_)
    rw [decideMarkedDrain_waits hw, if_pos hu']
    rfl

/-- Settles O35: the branch of each decision that sets a wait. -/
theorem headsThatWait : Obligations.HeadsThatWait := by
  intro i r s h
  obtain ⟨hat, hm, hb⟩ := h
  refine ⟨fun hk hr => ?_, fun hk hr hp => ?_, fun e ha hl he => ?_, fun e ha hl he hd hu hw => ?_,
    fun g ha hg hf hu hp => ?_, fun hk hp => ?_, fun ha hn hu hw => ?_⟩
  · exact exec_writeDecision hat (.inl hk) ((decideWrite_checked hm hb).trans (if_pos hr))
  · refine exec_writeDecision hat (.inl hk) ((decideWrite_checked hm hb).trans ?_)
    rw [hr, hp]
    rfl
  · exact exec_writeAdmitted ha (decideByStore_releasing hl he)
  · refine exec_writeAdmitted ha ((decideByStore_held hl he).trans ?_)
    rw [decideHeld_durable hd, unavailable_false hu, if_neg (by decide), if_pos hw]
    rfl
  · refine exec_writeMisses ha ((decideMiss_holds hg).trans ?_)
    rw [decideAllocation_fails hf, unavailable_false hu, if_neg (by decide)]
    unfold decideByFullPolicy
    rw [hp]
    rfl
  · exact exec_readDecision hat (.inl hk) ((decideRead_checked hm hb).trans (if_pos hp))
  · refine exec_readAdmitted ha ((decideReadByStore_needsMemory hn).trans ?_)
    unfold decideMemoryRead
    rw [unavailable_false hu, if_neg (by decide), if_pos hw]
    rfl

/-- Settles O38: the read's branch is the full hit, whose bytes are read in address order. -/
theorem fullHitAnswered : Obligations.FullHitAnswered := by
  intro i r e s h hl he hcov
  refine ⟨bytesAt r.address r.length.toNat s.entries[e].data, bytesAt_length .., fun k p hk hp => ?_, ?_⟩
  · rw [bytesAt_length] at hk
    exact bytesAt_at hk hp
  · refine exec_readAdmitted h ((decideReadByStore_hit hl).trans ?_)
    have hf : s.entries[e].state ≠ .faulted := by
      rcases he with he | he <;> rw [he] <;> exact nofun
    rw [if_neg hf, if_pos (covers_of_subset hcov)]
    rfl

/-- Settles O39: the read's branch is the entry into the list; its record is read field by field. -/
theorem readEntersTheList : Obligations.ReadEntersTheList := by
  intro i r s h hn hu hlen cls st u
  have hcls : recordedClass s r = cls := by
    simp only [recordedClass, beq_iff_eq, cls]
  have hst : entryReadState s r = st := by
    unfold entryReadState
    rw [hcls]
    by_cases hw : s.power.state = .awake <;> by_cases hc : cls = .urgent <;> simp [st, hw, hc]
  refine exec_readAdmitted h ((decideReadByStore_needsMemory hn).trans ?_)
  unfold decideMemoryRead
  rw [unavailable_false hu, if_neg (by decide), if_neg (Nat.not_le.2 hlen), enterRead, newRead, hcls, hst, readWake]

/-- Settles O40: the drain's branches by what it covers and by the room of the list. -/
theorem drainDecided : Obligations.DrainDecided := by
  intro i r s h hk hm
  refine ⟨fun h0 => exec_drainDecision h (.inl hk) (decideDrain_done hm h0), fun m hc h0 hg => ?_⟩
  have hmarked (t : State) (ht : decideMarkedDrain i r m s = t) : exec (.drainDecision i) s = .next (settle t) :=
    exec_drainDecision h (.inl hk) ((decideDrain_marked hm hg (newest_some hc h0)).trans ht)
  have hidle (hn : ¬∃ e : EntryIx, (r.groups.getLsbD s.entries[e].group.val = true ∧ s.entries[e].seq ≤ m) ∧
      (s.entries[e].state = .held ∨ s.entries[e].state = .releasing)) : drainHeldUp s r.groups m = false := by
    rwa [← drainHeldUp_iff, Bool.not_eq_true] at hn
  refine ⟨fun hn hf => hmarked _ ?_, fun hn hf => hmarked _ ?_, fun hw hu hl => hmarked _ ?_,
      fun hw hu hl => hmarked _ ?_⟩
  · rw [decideMarkedDrain_answered (hidle hn), drainAnswer, if_pos (drainFaulted_iff.2 hf)]
  · rw [decideMarkedDrain_answered (hidle hn), drainAnswer, if_neg]
    rintro hf'
    obtain ⟨e, hcov, he⟩ := drainFaulted_iff.1 hf'
    exact hf e hcov he
  · rw [decideMarkedDrain_waits (drainHeldUp_iff.2 hw), unavailable_false hu, if_neg (by decide), if_pos hl]
    rfl
  · rw [decideMarkedDrain_waits (drainHeldUp_iff.2 hw), unavailable_false hu, if_neg (by decide),
      if_neg (Nat.not_le.2 hl)]
    rfl

end Sys2Proof.Settled

/-! PROOFS. The group unit: episodes, drains, release requests and triggers (chapter 5), with what each does to the group
records. -/

namespace Sys2Proof.Proofs

open Sys2Proof Sys2Proof.Machine

/-! ## Group records by index -/

section Records

variable {s : State} {g j : GroupIx}

theorem setGroup_group (x : Group) (s : State) (g j : GroupIx) :
    (setGroup g x s).groups[j] = if j = g then x else s.groups[j] := getElem_set_fin ..

theorem setGroup_self_eq {x : Group} (h : x = s.groups[g]) : setGroup g x s = s := by
  have hg : (setGroup g x s).groups = s.groups :=
    ext_fin fun j => by
      rw [setGroup_group]
      split
      · next hj => rw [h, hj]
      · rfl
  rw [show setGroup g x s = { s with groups := (setGroup g x s).groups } from rfl, hg]

theorem takeWake_group (s : State) (j : GroupIx) : (takeWake s).groups[j] = s.groups[j] :=
  congrArg (fun v : Vector Group Config.numGroups => v[j]) takeWake_groups

/-- The state with the records of some groups changed alike. -/
def mapGroups (gs : List GroupIx) (f : Group → Group) (s : State) : State :=
  { s with groups := Vector.ofFn fun j => if j ∈ gs then f s.groups[j] else s.groups[j] }

theorem mapGroups_group (gs : List GroupIx) (f : Group → Group) (s : State) (j : GroupIx) :
    (mapGroups gs f s).groups[j] = if j ∈ gs then f s.groups[j] else s.groups[j] := by
  rw [mapGroups, Fin.getElem_fin, Vector.getElem_ofFn]

theorem mapGroups_nil (f : Group → Group) (s : State) : mapGroups [] f s = s := by
  have hg : (mapGroups [] f s).groups = s.groups := ext_fin fun j => (mapGroups_group ..).trans (if_neg List.not_mem_nil)
  rw [show mapGroups [] f s = { s with groups := (mapGroups [] f s).groups } from rfl, hg]

/-- Changing the records one by one is changing them together, where a second change of one record adds nothing. -/
theorem foldl_setGroup {f : Group → Group} (hf : ∀ x, f (f x) = f x) {u : State → GroupIx → State}
    (hu : ∀ s g, u s g = setGroup g (f s.groups[g]) s) (gs : List GroupIx) (s : State) :
    gs.foldl u s = mapGroups gs f s := by
  induction gs generalizing s with
  | nil => exact (mapGroups_nil f s).symm
  | cons g gs ih =>
    rw [List.foldl_cons, ih, hu]
    have hg : (mapGroups gs f (setGroup g (f s.groups[g]) s)).groups = (mapGroups (g :: gs) f s).groups :=
      ext_fin fun j => by
        simp only [mapGroups_group, setGroup_group, List.mem_cons]
        by_cases hj : j = g
        · subst hj
          by_cases hm : j ∈ gs <;> simp [hm, hf]
        · simp [hj]
    rw [show mapGroups gs f (setGroup g (f s.groups[g]) s) =
        { s with groups := (mapGroups gs f (setGroup g (f s.groups[g]) s)).groups } from rfl, hg]
    rfl

/-- R100: the record with the episode opened or raised. -/
def withEpisode (ep : Episode) (x : Group) : Group := { x with episode := ep }

/-- The record with its pending release set. -/
def withPending (v : Bool) (x : Group) : Group := { x with pendingRelease := v }

theorem setEpisodes_eq (ep : Episode) (gs : List GroupIx) (s : State) :
    gs.foldl (setEpisode ep) s = mapGroups gs (withEpisode ep) s :=
  foldl_setGroup (f := withEpisode ep) (fun _ => rfl) (fun _ _ => rfl) gs s

theorem setPendingReleases_eq (v : Bool) (gs : List GroupIx) (s : State) :
    gs.foldl (setPendingRelease v) s = mapGroups gs (withPending v) s :=
  foldl_setGroup (f := withPending v) (fun _ => rfl) (fun _ _ => rfl) gs s

end Records

/-! ## What a group holds -/

section Holds

variable {s : State} {g : GroupIx} {m : Seq}

/-- R103, R106: a HELD or RELEASING entry of the group stands at or below the mark. -/
theorem inStoreUnder_iff {x : Entry} :
    inStoreUnder g m x = true ↔ (x.state = .held ∨ x.state = .releasing) ∧ x.group = g ∧ x.seq ≤ m := by
  simp only [inStoreUnder, Bool.and_eq_true, Bool.or_eq_true, beq_iff_eq, decide_eq_true_eq, and_assoc]

theorem episodeHolds_iff :
    episodeHolds s g = true ↔ ∃ m, s.groups[g].episode = .mark m ∧ ∃ e : EntryIx,
      (s.entries[e].state = .held ∨ s.entries[e].state = .releasing) ∧ s.entries[e].group = g ∧
        s.entries[e].seq ≤ m := by
  unfold episodeHolds
  split
  · next m h => simp only [any_fin_iff, inStoreUnder_iff, h, Episode.mark.injEq, exists_eq_left']
  all_goals
    next h => exact iff_of_false nofun (by rintro ⟨m, hm, -⟩; rw [h] at hm; cases hm)

theorem episodeCovers_iff {ep : Episode} {q : Seq} : episodeCovers ep q = true ↔ ∃ m, ep = .mark m ∧ q ≤ m := by
  cases ep <;> simp [episodeCovers]

theorem coveredHeld_iff :
    coveredHeld s g = true ↔ ∃ m, s.groups[g].episode = .mark m ∧ ∃ e : EntryIx,
      s.entries[e].state = .held ∧ s.entries[e].group = g ∧ s.entries[e].seq ≤ m := by
  simp only [coveredHeld, any_fin_iff, Bool.and_eq_true, beq_iff_eq, episodeCovers_iff]
  constructor
  · rintro ⟨e, ⟨he, hg⟩, m, hm, hq⟩
    exact ⟨m, hm, e, he, hg, hq⟩
  · rintro ⟨m, hm, e, he, hg, hq⟩
    exact ⟨e, ⟨he, hg⟩, m, hm, hq⟩

theorem active_iff : active s g = true ↔ s.groups[g].state = .holding ∨ s.groups[g].state = .closing := by
  simp only [active, Bool.or_eq_true, beq_iff_eq]

theorem holdingWithHeld_iff :
    holdingWithHeld s g = true ↔ s.groups[g].state = .holding ∧ 0 < s.counts.groupHeld[g] := by
  simp only [holdingWithHeld, Bool.and_eq_true, beq_iff_eq, decide_eq_true_eq]

theorem mem_groupsOf {set : BitVec 4} : g ∈ groupsOf set ↔ set.getLsbD g.val = true := by
  simp only [groupsOf, List.mem_filter, List.mem_finRange, true_and]

/-- R100: the groups that a release request reaches. -/
theorem mem_reached {j : GroupIx} :
    j ∈ reached s g ↔ j = g ∨
      (s.groups[g].companions.getLsbD j.val = true ∧ s.groups[j].state = .holding ∧ 0 < s.counts.groupHeld[j]) := by
  simp only [reached, List.mem_cons, List.mem_filter, mem_groupsOf, Bool.and_eq_true, bne_iff_ne, holdingWithHeld_iff]
  by_cases h : j = g <;> simp [h]

end Holds

/-! ## Drains (R109) -/

section Drains

variable {s : State} {g : GroupIx} {d : Drain}

theorem drainRetires_iff :
    drainRetires s g d = true ↔ d.groups.getLsbD g.val = true ∧
      ∀ e : EntryIx, d.groups.getLsbD s.entries[e].group.val = true → s.entries[e].seq ≤ d.mark →
        s.entries[e].state ≠ .held ∧ s.entries[e].state ≠ .releasing := by
  simp only [drainRetires, Bool.and_eq_true, Bool.not_eq_true', ← Bool.not_eq_true, drainHeldUp_iff, not_exists,
    not_and, not_or, and_imp, ne_eq]

/-- R109: the retirement of drains touches the list, the responses and the outstanding sets alone. -/
theorem testDrains_eq (g : GroupIx) (s : State) :
    testDrains g s =
      { s with
        drains := s.drains.filter fun d => !drainRetires s g d
        upstreamOut := s.upstreamOut ++ (s.drains.filter (drainRetires s g)).map fun d =>
          .response (BitVec.ofNat 3 d.initiator.val) d.tag (drainAnswer s d.groups d.mark)
        initiators := (testDrains g s).initiators } := by
  unfold testDrains
  dsimp only
  conv_lhs => rw [answerDrain_answering.fold_eq]
  rfl

@[simp] theorem testDrains_groups : (testDrains g s).groups = s.groups := by rw [testDrains_eq]
@[simp] theorem testDrains_entries : (testDrains g s).entries = s.entries := by rw [testDrains_eq]
@[simp] theorem testDrains_counts : (testDrains g s).counts = s.counts := by rw [testDrains_eq]
@[simp] theorem testDrains_seqCounter : (testDrains g s).seqCounter = s.seqCounter := by rw [testDrains_eq]
@[simp] theorem testDrains_timestamp : (testDrains g s).timestamp = s.timestamp := by rw [testDrains_eq]
@[simp] theorem testDrains_events : (testDrains g s).events = s.events := by rw [testDrains_eq]
@[simp] theorem testDrains_drains : (testDrains g s).drains = s.drains.filter fun d => !drainRetires s g d := by
  rw [testDrains_eq]

theorem testDrains_initiator (g : GroupIx) (s : State) (i : InitIx) :
    (testDrains g s).initiators[i] = { s.initiators[i] with tags := (testDrains g s).initiators[i].tags } ∧
      ∀ n : UpTag, (testDrains g s).initiators[i].tags.getLsbD n.toNat =
        (s.initiators[i].tags.getLsbD n.toNat &&
          !((s.drains.filter (drainRetires s g)).any fun d => d.initiator == i && d.tag == n)) :=
  answerDrain_answering.fold_initiator _ _ i

end Drains

/-! ## The end of an episode (R92, R103, R104) -/

section Episodes

variable {s : State} {g : GroupIx}

/-- R103: the end test ends the episode. -/
def episodeEnds (s : State) (g : GroupIx) : Bool := s.groups[g].episode != .absent && !episodeHolds s g

theorem testEpisode_stays (h : episodeEnds s g = false) : testEpisode g s = s := by
  unfold testEpisode
  split
  · rfl
  · next ha =>
    rw [episodeEnds, bne_iff_ne.2 ha, Bool.true_and, Bool.not_eq_false'] at h
    exact if_pos h

theorem testEpisode_ends (h : episodeEnds s g = true) : testEpisode g s = endEpisode g s := by
  simp only [episodeEnds, Bool.and_eq_true, bne_iff_ne, Bool.not_eq_true'] at h
  unfold testEpisode
  rw [if_neg h.1, h.2]
  rfl

/-- R104: the record of a HOLDING group whose episode has ended. -/
theorem endedGroup_holding {x : Group} (h : x.state = .holding) (s : State) (n : Nat) :
    endedGroup s x n =
      { x with
        episode := .absent, writeCount := 0, pendingRelease := false
        ageTimer := if n = 0 then none else some s.timestamp } := by
  have hn : (if 0 < n then some s.timestamp else none) = if n = 0 then none else some s.timestamp := by
    rcases Nat.eq_zero_or_pos n with h0 | h0
    · rw [if_neg (by omega), if_pos h0]
    · rw [if_pos h0, if_neg (by omega)]
  unfold endedGroup
  simp only [h, hn]

/-- R92: the record of a CLOSING group whose episode has ended. -/
theorem endedGroup_closing {x : Group} (h : x.state = .closing) (s : State) (n : Nat) :
    endedGroup s x n =
      { x with
        state := .closed, episode := .absent, writeCount := 0, pendingRelease := false, ageTimer := none
        quietTimer := none } := by
  unfold endedGroup
  simp only [h]

theorem endEpisode_holding (h : s.groups[g].state = .holding) :
    endEpisode g s = testDrains g (setGroup g
      { s.groups[g] with
        episode := .absent, writeCount := 0, pendingRelease := false
        ageTimer := if s.counts.groupHeld[g] = 0 then none else some s.timestamp } s) := by
  unfold endEpisode raiseClosed
  dsimp only
  rw [endedGroup_holding h, h]
  rfl

theorem endEpisode_closing (h : s.groups[g].state = .closing) :
    endEpisode g s = testDrains g
      { setGroup g
          { s.groups[g] with
            state := .closed, episode := .absent, writeCount := 0, pendingRelease := false, ageTimer := none
            quietTimer := none } s with
        events := s.events ||| (0x0100 <<< g.val) } := by
  unfold endEpisode raiseClosed
  dsimp only
  rw [endedGroup_closing h, h]
  rfl

end Episodes

end Sys2Proof.Proofs

/-! PROOFS. What the end tests of several episodes do together, and the statements on episodes, triggers and release
requests. -/

namespace Sys2Proof.Proofs

open Sys2Proof Sys2Proof.Machine

/-! ## One end test, by index -/

section Test

variable {s t : State} {g j : GroupIx}

theorem raiseClosed_groups (g : GroupIx) (b : GroupState) (s : State) : (raiseClosed g b s).groups = s.groups := by
  unfold raiseClosed
  split <;> rfl

theorem raiseClosed_drains (g : GroupIx) (b : GroupState) (s : State) :
    (raiseClosed g b s).drains = s.drains ∧ (raiseClosed g b s).entries = s.entries := by
  unfold raiseClosed
  split <;> exact ⟨rfl, rfl⟩

theorem endedGroup_episode (s : State) (x : Group) (n : Nat) : (endedGroup s x n).episode = .absent := by
  unfold endedGroup
  dsimp only
  split <;> rfl

/-- R92, R104: the record of a group after its end test. -/
def testedGroup (s : State) (g : GroupIx) : Group :=
  if episodeEnds s g then endedGroup s s.groups[g] s.counts.groupHeld[g] else s.groups[g]

theorem testEpisode_group (s : State) (g j : GroupIx) :
    (testEpisode g s).groups[j] = if j = g then testedGroup s g else s.groups[j] := by
  unfold testedGroup
  rcases h : episodeEnds s g with _ | _
  · rw [testEpisode_stays h]
    split
    · next hj => rw [hj]; rfl
    · rfl
  · rw [testEpisode_ends h]
    show (testDrains g _).groups[j] = _
    rw [testDrains_groups, raiseClosed_groups, setGroup_group]
    rfl

theorem testEpisode_group_other (h : j ≠ g) : (testEpisode g s).groups[j] = s.groups[j] :=
  (testEpisode_group s g j).trans (if_neg h)

/-- R103: what the end test is read from. -/
theorem episodeEnds_congr (hg : t.groups[g].episode = s.groups[g].episode) (he : t.entries = s.entries) :
    episodeEnds t g = episodeEnds s g := by
  unfold episodeEnds episodeHolds
  rw [hg, he]

theorem drainRetires_congr (he : t.entries = s.entries) (g : GroupIx) (d : Drain) :
    drainRetires t g d = drainRetires s g d := by
  unfold drainRetires drainHeldUp
  rw [he]

theorem testEpisode_entries : (testEpisode g s).entries = s.entries := (testEpisode_internal g s).entries

/-- R103: an episode that has been tested has nothing more to end. -/
theorem episodeEnds_tested (s : State) (g j : GroupIx) :
    episodeEnds (testEpisode g s) j = if j = g then false else episodeEnds s j := by
  split
  · next hj =>
    subst hj
    rcases h : episodeEnds s j with _ | _
    · rw [testEpisode_stays h, h]
    · have hrec : (testEpisode j s).groups[j].episode = .absent := by
        rw [testEpisode_group, if_pos rfl, testedGroup, if_pos h, endedGroup_episode]
      rw [episodeEnds, hrec]
      rfl
  · next hj => exact episodeEnds_congr (by rw [testEpisode_group_other hj]) testEpisode_entries

/-- R104, R109: the drains that an end test leaves. -/
theorem mem_testEpisode_drains {d : Drain} :
    d ∈ (testEpisode g s).drains ↔ d ∈ s.drains ∧ (episodeEnds s g = true → drainRetires s g d = false) := by
  rcases h : episodeEnds s g with _ | _
  · rw [testEpisode_stays h]
    simp
  · rw [testEpisode_ends h]
    show d ∈ (testDrains g _).drains ↔ _
    obtain ⟨hd, he⟩ := raiseClosed_drains g s.groups[g].state
      (setGroup g (endedGroup s s.groups[g] s.counts.groupHeld[g]) s)
    rw [testDrains_drains, List.mem_filter, drainRetires_congr (s := s) he, hd, Bool.not_eq_true']
    simp [setGroup]

theorem groupClosed_bit (g : GroupIx) : (0x0100#16 <<< g.val).getLsbD (8 + g.val) = true := by
  revert g
  decide

theorem testEpisode_raises (h : episodeEnds s g = true) (hg : s.groups[g].state = .closing) :
    (testEpisode g s).events.getLsbD (8 + g.val) = true := by
  rw [testEpisode_ends h, endEpisode_closing hg, testDrains_events]
  show (s.events ||| (0x0100#16 <<< g.val)).getLsbD _ = true
  rw [BitVec.getLsbD_or, groupClosed_bit, Bool.or_true]

end Test

/-! ## The end tests of a list of groups -/

section Tests

variable {s : State} {gs : List GroupIx} {j : GroupIx}

theorem testEpisodes_stays (h : ∀ g ∈ gs, episodeEnds s g = false) : testEpisodes gs s = s := by
  induction gs with
  | nil => rfl
  | cons g gs ih =>
    show testEpisodes gs (testEpisode g s) = s
    rw [testEpisode_stays (h g List.mem_cons_self)]
    exact ih fun j hj => h j (List.mem_cons_of_mem _ hj)

theorem testedGroup_congr {t : State} (hi : Internal s t) (hg : t.groups[j] = s.groups[j]) :
    testedGroup t j = testedGroup s j := by
  unfold testedGroup
  rw [episodeEnds_congr (by rw [hg]) hi.entries, hg, hi.counts]
  unfold endedGroup
  rw [hi.timestamp]

/-- R92, R104: the record of each group tested. -/
theorem testEpisodes_group (gs : List GroupIx) (s : State) (j : GroupIx) :
    (testEpisodes gs s).groups[j] = if j ∈ gs then testedGroup s j else s.groups[j] := by
  induction gs generalizing s with
  | nil => rfl
  | cons g gs ih =>
    show (testEpisodes gs (testEpisode g s)).groups[j] = _
    rw [ih]
    by_cases hj : j = g
    · subst hj
      have htested : testedGroup (testEpisode j s) j = testedGroup s j := by
        unfold testedGroup
        rw [episodeEnds_tested, if_pos rfl]
        exact (testEpisode_group s j j).trans (if_pos rfl)
      rw [htested, testEpisode_group, if_pos rfl, ite_self, if_pos List.mem_cons_self]
    · have hkept : (testEpisode g s).groups[j] = s.groups[j] := testEpisode_group_other hj
      rw [testedGroup_congr (testEpisode_internal g s) hkept, hkept]
      simp only [List.mem_cons, hj, false_or]

/-- R104, R109: the drains that the end tests leave. -/
theorem mem_testEpisodes_drains {d : Drain} :
    d ∈ (testEpisodes gs s).drains ↔
      d ∈ s.drains ∧ ∀ j ∈ gs, episodeEnds s j = true → drainRetires s j d = false := by
  induction gs generalizing s with
  | nil => simp [testEpisodes]
  | cons g gs ih =>
    show d ∈ (testEpisodes gs (testEpisode g s)).drains ↔ _
    simp only [ih, mem_testEpisode_drains, List.forall_mem_cons, and_assoc,
      drainRetires_congr (s := s) testEpisode_entries, episodeEnds_tested]
    refine and_congr_right fun _ => and_congr_right fun hg => ?_
    refine forall_congr' fun j => forall_congr' fun _ => ?_
    split
    · next hj =>
      subst hj
      exact iff_of_true nofun hg
    · rfl

/-- R92: each CLOSING group whose episode ends raises its cause. -/
theorem testEpisodes_raises (hj : j ∈ gs) (h : episodeEnds s j = true) (hs : s.groups[j].state = .closing) :
    (testEpisodes gs s).events.getLsbD (8 + j.val) = true := by
  induction gs generalizing s with
  | nil => cases hj
  | cons g gs ih =>
    show (testEpisodes gs (testEpisode g s)).events.getLsbD (8 + j.val) = true
    by_cases hg : j = g
    · subst hg
      obtain ⟨v, -, hv⟩ := (testEpisodes_internal gs (testEpisode j s)).events
      rw [hv, BitVec.getLsbD_or, testEpisode_raises h hs, Bool.true_or]
    · refine ih (List.mem_of_ne_of_mem hg hj) ?_ ?_
      · rw [episodeEnds_tested, if_neg hg, h]
      · rw [testEpisode_group_other hg, hs]

end Tests

/-! ## The wake of a release request (R101, R108) -/

section Request

variable {s : State} {g : GroupIx} {gs : List GroupIx} {m : Seq}

theorem reached_ne_nil (s : State) (g : GroupIx) : reached s g ≠ [] := List.cons_ne_nil _ _

theorem releaseRequest_idle (h : s.seqCounter = 0 ∨ active s g = false) : releaseRequest g s = s := by
  unfold releaseRequest
  split
  · rfl
  · next m hm =>
    rcases h with h | h
    · rw [newest_none h] at hm
      cases hm
    · rw [h]
      rfl

/-- R100: the records that a release request has marked. -/
def marked (m : Seq) (gs : List GroupIx) (s : State) : State := mapGroups gs (withEpisode (.mark m)) s

theorem releaseRequest_marked (hm : newest s = some m) (ha : active s g = true) :
    releaseRequest g s = testEpisodes (reached s g) (requestWake (reached s g) (marked m (reached s g) s)) := by
  unfold releaseRequest
  rw [hm]
  dsimp only
  rw [ha, if_pos rfl, setEpisodes_eq]
  rfl

theorem marked_episode {j : GroupIx} (hj : j ∈ gs) : (marked m gs s).groups[j].episode = .mark m := by
  rw [marked, mapGroups_group, if_pos hj]
  rfl

/-- R101: a marked group has a covered HELD entry where one stands at or below the mark. -/
theorem coveredHeld_marked {j : GroupIx} (hj : j ∈ gs) :
    coveredHeld (marked m gs s) j = true ↔ ∃ e : EntryIx,
      s.entries[e].state = .held ∧ s.entries[e].group = j ∧ s.entries[e].seq ≤ m := by
  rw [coveredHeld_iff, marked_episode hj]
  simp only [Episode.mark.injEq, exists_eq_left']
  rfl

theorem episodeEnds_marked {j : GroupIx} (hj : j ∈ gs) :
    episodeEnds (marked m gs s) j = false ↔ ∃ e : EntryIx,
      (s.entries[e].state = .held ∨ s.entries[e].state = .releasing) ∧ s.entries[e].group = j ∧
        s.entries[e].seq ≤ m := by
  have hep := marked_episode (s := s) (m := m) hj
  rw [episodeEnds, hep, show (Episode.mark m != .absent) = true from rfl, Bool.true_and, Bool.not_eq_false',
    episodeHolds_iff, hep]
  simp only [Episode.mark.injEq, exists_eq_left']
  rfl

/-- The record with the pending release that R101 gives it. -/
def owing (deferred awake : Bool) (x : Group) : Group :=
  { x with pendingRelease := if deferred then true else if awake then false else x.pendingRelease }

/-- R101: every group reached has a covered HELD entry: the wake is owed, not wanted or posted. -/
theorem requestWake_eq (hne : gs ≠ []) (hcov : ∀ g ∈ gs, coveredHeld s g = true) :
    requestWake gs s =
      if halted s || (windowMode s && s.power.state == .asleep) then mapGroups gs (owing true false) s
      else takeWake (mapGroups gs (owing false (s.power.state == .awake)) s) := by
  have hall : gs.filter (coveredHeld s) = gs := List.filter_eq_self.2 hcov
  unfold requestWake
  rw [hall, if_neg hne, setPendingReleases_eq, setPendingReleases_eq]
  rcases halted s with _ | _
  · rcases hw : (windowMode s && s.power.state == .asleep) with _ | _
    · rcases ha : (s.power.state == .awake) with _ | _
      · have hsame : mapGroups gs (owing false false) s = s := by
          have hg : (mapGroups gs (owing false false) s).groups = s.groups :=
            ext_fin fun j => by rw [mapGroups_group]; exact ite_self _
          rw [show mapGroups gs (owing false false) s =
            { s with groups := (mapGroups gs (owing false false) s).groups } from rfl, hg]
        rw [hsame]
        rfl
      · rw [beq_iff_eq] at ha
        have hignored : takeWake (mapGroups gs (owing false true) s) = mapGroups gs (owing false true) s :=
          takeWake_of_ignored (s := mapGroups gs _ s) (ha ▸ nofun) (ha ▸ nofun)
        exact hignored.symm
    · rfl
  · rfl

/-- R108: the records with the pending releases that a drain's requests owe. -/
theorem drainWake_eq (gs : List GroupIx) (s : State) :
    drainWake gs s =
      if gs.filter (coveredHeld s) = [] then s
      else if halted s then mapGroups (gs.filter (coveredHeld s)) (withPending true) s
      else takeWake s := by
  unfold drainWake
  dsimp only
  rw [setPendingReleases_eq]

end Request

/-! ## A release request and a drain's requests as a whole (R100, R101, R103, R108) -/

section Whole

variable {s : State} {g : GroupIx} {m : Seq}

/-- The groups a drain's requests reach, in order. -/
theorem drainRequests_order (groups : BitVec 4) (s : State) :
    ((groupsOf groups).filter (active s)).flatMap (reached s) =
      ((List.finRange 4).filter fun g : GroupIx => groups.getLsbD g.val && active s g).flatMap (reached s) := by
  rw [groupsOf, List.filter_filter]
  simp only [Bool.and_comm]

theorem drainRequests_marked {groups : BitVec 4} {order : List GroupIx} (hm : newest s = some m)
    (ho : order = ((List.finRange 4).filter fun g : GroupIx => groups.getLsbD g.val && active s g).flatMap (reached s)) :
    drainRequests groups s = testEpisodes order (drainWake order (marked m order s)) := by
  unfold drainRequests
  rw [hm]
  dsimp only
  rw [drainRequests_order, ← ho, setEpisodes_eq]
  rfl

/-- The records that a drain's requests leave before its wake: those it reaches are marked, and under the halt the ones
with a covered HELD entry owe their release. -/
def drainMarked (m : Seq) (gs : List GroupIx) (s : State) : State :=
  if halted s then mapGroups (gs.filter (coveredHeld (marked m gs s))) (withPending true) (marked m gs s)
  else marked m gs s

theorem drainMarked_group (gs : List GroupIx) (s : State) (j : GroupIx) :
    (drainMarked m gs s).groups[j] =
      if j ∈ gs then
        { s.groups[j] with
          episode := .mark m
          pendingRelease := s.groups[j].pendingRelease || (halted s && coveredHeld (marked m gs s) j) }
      else s.groups[j] := by
  have hmarked : (marked m gs s).groups[j] = if j ∈ gs then withEpisode (.mark m) s.groups[j] else s.groups[j] :=
    mapGroups_group ..
  unfold drainMarked
  by_cases hj : j ∈ gs
  · rw [if_pos hj] at hmarked ⊢
    rcases hh : halted s with _ | _
    · rw [if_neg (by decide), hmarked, Bool.false_and, Bool.or_false]
      rfl
    · rw [if_pos rfl, mapGroups_group, hmarked]
      rcases hc : coveredHeld (marked m gs s) j with _ | _
      · rw [if_neg (by simp [hc]), Bool.and_false, Bool.or_false]
        rfl
      · rw [if_pos (List.mem_filter.2 ⟨hj, hc⟩), Bool.and_true, Bool.or_true]
        rfl
  · rw [if_neg hj] at hmarked ⊢
    split
    · rw [mapGroups_group, if_neg fun h => hj (List.mem_filter.1 h).1, hmarked]
    · exact hmarked

theorem drainMarked_frame (gs : List GroupIx) (s : State) :
    drainMarked m gs s = { s with groups := (drainMarked m gs s).groups } := by
  unfold drainMarked
  split <;> rfl

/-- R108: the wake of a drain's requests: owed under the halt, and posted otherwise where a HELD entry is covered. -/
theorem drainWake_marked (gs : List GroupIx) (s : State) :
    drainWake gs (marked m gs s) =
      if halted s = false ∧ ∃ j ∈ gs, coveredHeld (marked m gs s) j = true then takeWake (drainMarked m gs s)
      else drainMarked m gs s := by
  have hnil : gs.filter (coveredHeld (marked m gs s)) = [] ↔ ¬∃ j ∈ gs, coveredHeld (marked m gs s) j = true := by
    simp
  have hhalt : halted (marked m gs s) = halted s := rfl
  rw [drainWake_eq, hhalt]
  unfold drainMarked
  by_cases hc : ∃ j ∈ gs, coveredHeld (marked m gs s) j = true
  · rw [if_neg fun h => hnil.1 h hc]
    rcases hh : halted s with _ | _
    all_goals simp [hc]
  · rw [if_pos (hnil.2 hc), if_neg fun h => hc h.2, hnil.2 hc, mapGroups_nil, ite_self]

theorem drainWake_group (gs : List GroupIx) (s : State) (j : GroupIx) :
    (drainWake gs (marked m gs s)).groups[j] = (drainMarked m gs s).groups[j] := by
  rw [drainWake_marked]
  split
  · exact takeWake_group _ j
  · rfl

theorem drainWake_drains (gs : List GroupIx) (s : State) : (drainWake gs (marked m gs s)).drains = s.drains := by
  rw [drainWake_marked, drainMarked_frame]
  split
  · exact takeWake_drains
  · rfl

/-- R103: which of the groups that a drain's requests reach have their episodes ended at once. -/
theorem episodeEnds_drainWake {gs : List GroupIx} {j : GroupIx} (hj : j ∈ gs) :
    episodeEnds (drainWake gs (marked m gs s)) j = false ↔ ∃ e : EntryIx,
      (s.entries[e].state = .held ∨ s.entries[e].state = .releasing) ∧ s.entries[e].group = j ∧
        s.entries[e].seq ≤ m := by
  rw [episodeEnds_congr (s := marked m gs s) ?_ (drainWake_internal gs _).entries]
  · exact episodeEnds_marked hj
  · rw [drainWake_group, drainMarked_group, if_pos hj, marked_episode hj]

theorem releaseRequest_covered (hm : newest s = some m) (ha : active s g = true)
    (hcov : ∀ j ∈ reached s g, ∃ e : EntryIx,
      s.entries[e].state = .held ∧ s.entries[e].group = j ∧ s.entries[e].seq ≤ m) :
    releaseRequest g s = requestWake (reached s g) (marked m (reached s g) s) := by
  rw [releaseRequest_marked hm ha]
  refine testEpisodes_stays fun j hj => ?_
  have hi := requestWake_internal (reached s g) (marked m (reached s g) s)
  rw [requestWake_eq (reached_ne_nil s g) fun j hj => (coveredHeld_marked hj).2 (hcov j hj)] at hi ⊢
  have hkept (a b : Bool) : (mapGroups (reached s g) (owing a b) (marked m (reached s g) s)).groups[j].episode =
      (marked m (reached s g) s).groups[j].episode := by
    rw [mapGroups_group, if_pos hj]
    rfl
  rw [episodeEnds_congr (s := marked m (reached s g) s) ?_ hi.entries]
  · obtain ⟨e, he, hg, hq⟩ := hcov j hj
    exact (episodeEnds_marked hj).2 ⟨e, .inl he, hg, hq⟩
  · split
    · exact hkept _ _
    · rw [takeWake_group]
      exact hkept _ _

end Whole

/-! ## Triggers (R94 to R98) -/

section Triggers

variable {s : State} {g : GroupIx}

theorem countFires_iff {x : Group} :
    countFires x = true ↔ x.relMode = .count ∧ x.writeCount.toNat + 1 = x.relValue.toNat := by
  have hw := x.writeCount.isLt
  have hr := x.relValue.isLt
  simp only [countFires, Bool.and_eq_true, beq_iff_eq, bne_iff_ne, and_assoc]
  refine and_congr_right fun _ => ?_
  rw [ne_eq, ne_eq, BitVec.toNat_eq, BitVec.toNat_eq, BitVec.toNat_eq, BitVec.toNat_add]
  show ¬_ = 0 ∧ ¬_ = 65535 ∧ (_ + 1) % 65536 = _ ↔ _
  omega

theorem writeReport_holding (h : s.groups[g].state = .holding) :
    writeReport g s =
      if countFires s.groups[g] then
        releaseRequest g (setGroup g
          { s.groups[g] with quietTimer := some s.timestamp, writeCount := countWrite s.groups[g].writeCount } s)
      else setGroup g
        { s.groups[g] with quietTimer := some s.timestamp, writeCount := countWrite s.groups[g].writeCount } s :=
  if_pos h

/-- R95: the state after the age timer's part of a rise of the HELD count. -/
def ageStarted (g : GroupIx) (s : State) : State :=
  if s.counts.groupHeld[g] = 1 ∧ s.groups[g].ageTimer = none then
    setGroup g { s.groups[g] with ageTimer := some s.timestamp } s
  else s

theorem ageStarted_eq (g : GroupIx) (s : State) :
    (if s.counts.groupHeld[g] = 1 then startAgeTimer g s else s) = ageStarted g s := by
  unfold ageStarted startAgeTimer
  by_cases hn : s.counts.groupHeld[g] = 1
  · rw [if_pos hn]
    dsimp only
    rcases ht : s.groups[g].ageTimer with _ | a
    · rw [if_pos ⟨hn, rfl⟩]
      rfl
    · rw [if_neg (by simp)]
      exact setGroup_self_eq (by rw [Option.getD_some, ← ht])
  · rw [if_neg hn, if_neg fun h => hn h.1]

theorem ageStarted_lineLimit (g : GroupIx) (s : State) :
    (ageStarted g s).groups[g].lineLimit = s.groups[g].lineLimit ∧ (ageStarted g s).counts = s.counts := by
  unfold ageStarted
  split
  · exact ⟨by rw [setGroup_group, if_pos rfl], rfl⟩
  · exact ⟨rfl, rfl⟩

theorem heldRose_holding (h : s.groups[g].state = .holding) :
    heldRose g s =
      if s.groups[g].lineLimit.toNat ≠ 0 ∧ s.counts.groupHeld[g] = s.groups[g].lineLimit.toNat then
        releaseRequest g (ageStarted g s)
      else ageStarted g s := by
  unfold heldRose
  rw [if_pos h]
  dsimp only
  obtain ⟨hl, hc⟩ := ageStarted_lineLimit g s
  rw [ageStarted_eq, hl, hc]

end Triggers

end Sys2Proof.Proofs

namespace Sys2Proof.Settled

open Sys2Proof Sys2Proof.Machine Sys2Proof.Proofs

/-- Settles O24: the end test by the state of the group, and the drains it retires as one list of answers. -/
theorem episodesEndAndDrainsRetire : Obligations.EpisodesEndAndDrainsRetire := by
  refine ⟨fun s g h => if_pos h, fun s g m e hm he hg hq => ?_, fun s g hne hnone => ?_, fun s g d => drainRetires_iff,
    fun s g => ⟨?_, ?_, ?_, fun i => testDrains_initiator g s i⟩⟩
  · refine testEpisode_stays ?_
    rw [episodeEnds, episodeHolds_iff.2 ⟨m, hm, e, he, hg, hq⟩, Bool.not_true, Bool.and_false]
  · have hends : episodeEnds s g = true := by
      have hh : episodeHolds s g = false := by
        rw [← Bool.not_eq_true, episodeHolds_iff]
        rintro ⟨m, hm, e, he, hg, hq⟩
        exact he.elim (hnone m e hm hg hq).1 (hnone m e hm hg hq).2
      rw [episodeEnds, bne_iff_ne.2 hne, hh]
      rfl
    exact ⟨fun h => (testEpisode_ends hends).trans (endEpisode_holding h),
      fun h => (testEpisode_ends hends).trans (endEpisode_closing h)⟩
  · rw [testDrains_eq]
  · exact testDrains_drains
  · have hanswer (d : Drain) : drainAnswer s d.groups d.mark =
        if s.entries.any fun x => x.state == .faulted && d.groups.getLsbD x.group.val && x.seq ≤ d.mark
          then .error .drainFault else .done := by
      rw [drainAnswer, drainFaulted]
      simp only [drainCovers, ← Bool.and_assoc]
    rw [testDrains_eq]
    simp only [hanswer]

/-- Settles O25: the report and the rise in a HOLDING group, and in any other. -/
theorem triggersOfAGroup : Obligations.TriggersOfAGroup := by
  refine fun s g => ⟨fun h => ⟨if_neg h, if_neg h⟩, fun h => ⟨⟨countWrite s.groups[g].writeCount, countUp_toNat _,
    fun hf => ?_, fun hf => ?_⟩, ageStarted g s, rfl, fun hf => ?_, fun hf => ?_⟩⟩
  · rw [writeReport_holding h, if_pos (countFires_iff.2 hf)]
  · rw [writeReport_holding h, if_neg fun hc => hf.elim (fun k => k (countFires_iff.1 hc).1) fun k => k (countFires_iff.1 hc).2]
  · rw [heldRose_holding h, if_pos ⟨hf.2 ▸ hf.1, hf.2⟩]
  · rw [heldRose_holding h, if_neg fun ⟨h0, hn⟩ => hf.elim (fun k => k hn) fun k => h0 (by rw [k]; rfl)]

/-- Settles O23: the marks and the wake of a request as changes of the records of the groups it reaches, then the end
tests of those groups together. -/
theorem releaseRequestMarks : Obligations.ReleaseRequestMarks := by
  refine ⟨fun s g j => mem_reached, fun s g h => releaseRequest_idle h, ?_, ?_⟩
  · intro s g m hm ha hcov deferred owes
    have howes (x : Group) : owing deferred (s.power.state == .awake) x = { x with pendingRelease := owes x } := by
      unfold owing
      simp only [owes, beq_iff_eq]
    have hrec (j : GroupIx) :
        (mapGroups (reached s g) (owing deferred (s.power.state == .awake)) (marked m (reached s g) s)).groups[j] =
          if j ∈ reached s g then { s.groups[j] with episode := .mark m, pendingRelease := owes s.groups[j] }
          else s.groups[j] := by
      have hmarked : (marked m (reached s g) s).groups[j] =
          if j ∈ reached s g then withEpisode (.mark m) s.groups[j] else s.groups[j] := mapGroups_group ..
      rw [mapGroups_group, hmarked]
      split
      · rw [howes]
        rfl
      · rfl
    refine ⟨_, rfl, hrec, ?_⟩
    rw [releaseRequest_covered hm ha hcov,
      requestWake_eq (reached_ne_nil s g) fun j hj => (coveredHeld_marked hj).2 (hcov j hj)]
    show (if deferred = true then mapGroups _ (owing true false) _ else takeWake (mapGroups _ (owing false _) _)) = _
    rcases hd : deferred with _ | _
    · rfl
    · rfl
  · intro s groups m hm order covered waits
    have hreq : drainRequests groups s = testEpisodes order (drainWake order (marked m order s)) :=
      drainRequests_marked hm rfl
    have hcov (j : GroupIx) (hj : j ∈ order) : coveredHeld (marked m order s) j = true ↔ covered j :=
        coveredHeld_marked hj
    have hends (j : GroupIx) (hj : j ∈ order) :
        episodeEnds (drainWake order (marked m order s)) j = false ↔ waits j := episodeEnds_drainWake hj
    have hends' (j : GroupIx) (hj : j ∈ order) (hw : ¬waits j) :
        episodeEnds (drainWake order (marked m order s)) j = true := by
      rw [← hends j hj, Bool.not_eq_false] at hw
      exact hw
    have hi := drainWake_internal order (marked m order s)
    have hrec (j : GroupIx) (hj : j ∈ order) := (drainWake_group order s j).trans
      ((drainMarked_group (m := m) order s j).trans (if_pos hj))
    refine ⟨drainMarked m order s, drainWake order (marked m order s), drainMarked_frame order s,
      fun j => ⟨fun hj => ⟨_, (drainMarked_group order s j).trans (if_pos hj), ?_⟩,
        fun hj => (drainMarked_group order s j).trans (if_neg hj)⟩,
      fun h => ?_, fun hh ⟨j, hj, hc⟩ => ?_, hreq, fun h => ?_, fun j hj => ?_,
          fun j hj hw => ⟨fun hs => ?_, fun hs => ?_⟩,
      fun d => ?_⟩
    · rw [Bool.or_eq_true, Bool.and_eq_true, hcov j hj]
    · rw [drainWake_marked, if_neg]
      rintro ⟨hh, j, hj, hc⟩
      rcases h with h | h
      · rw [h] at hh
        cases hh
      · exact h j hj ((hcov j hj).1 hc)
    · rw [drainWake_marked, if_pos ⟨hh, j, hj, (hcov j hj).2 hc⟩]
    · rw [hreq]
      exact testEpisodes_stays fun j hj => (hends j hj).2 (h j hj)
    · rw [hreq, testEpisodes_group]
      split
      · next hm => rw [testedGroup, (hends j hm).2 (hj.resolve_left fun h => h hm), if_neg (by decide)]
      · rfl
    · have hholding : (drainWake order (marked m order s)).groups[j].state = .holding := by
        rw [hrec j hj]
        exact hs
      rw [hreq, testEpisodes_group, if_pos hj, testedGroup, if_pos (hends' j hj hw), endedGroup_holding hholding,
        hrec j hj, hi.counts, hi.timestamp]
      rfl
    · have hends := hends' j hj hw
      have hclosing : (drainWake order (marked m order s)).groups[j].state = .closing := by
        rw [hrec j hj]
        exact hs
      refine ⟨by rw [hreq]; exact testEpisodes_raises hj hends hclosing, ?_⟩
      rw [hreq, testEpisodes_group, if_pos hj, testedGroup, if_pos hends, endedGroup_closing hclosing, hrec j hj]
    · rw [hreq, mem_testEpisodes_drains, drainWake_drains]
      refine and_congr_right fun _ => forall_congr' fun j => forall_congr' fun hj => ?_
      rw [drainRetires_congr (s := s) hi.entries, ← hends j hj, Bool.not_eq_false]

end Sys2Proof.Settled

/-! PROOFS. The group records stay sound (R88, R90 to R92, R103): a record by record form of the invariant, what each
operation of the group unit does to it, and then every command. -/

namespace Sys2Proof.Proofs

open Sys2Proof Sys2Proof.Machine

/-! ## The invariant, group by group -/

/-- The entry is HELD or RELEASING. -/
def inStore (x : Entry) : Prop := x.state = .held ∨ x.state = .releasing

/-- The record fits its group over these entries: at rest and without entries in IDLE and CLOSED, no episode without a mark
in HOLDING, timers stopped and an episode that covers all in CLOSING. -/
structure GroupFits (v : Vector Entry Config.numEntries) (g : GroupIx) (x : Group) : Prop where
  resting : x.state = .idle ∨ x.state = .closed → quiet x ∧ ∀ e : EntryIx, inStore v[e] → v[e].group ≠ g
  holding : x.state = .holding → x.episode ≠ .noMark
  stopped : x.state = .closing → x.ageTimer = none ∧ x.quietTimer = none
  covered : x.state = .closing → ∃ m, x.episode = .mark m ∧ ∀ e : EntryIx, inStore v[e] → v[e].group = g → v[e].seq ≤ m

theorem groupsSound_iff {s : State} : GroupsSound s ↔ ∀ g : GroupIx, GroupFits s.entries g s.groups[g] := by
  refine ⟨fun h g => ⟨fun hg => ⟨h.resting g hg, fun e he hge => ?_⟩, h.holding g, fun hg => ?_, fun hg => ?_⟩,
    fun h => ⟨fun g hg => ((h g).resting hg).1, fun g => (h g).holding, fun g hg => ?_, fun e he => ?_⟩⟩
  · have ha := active_iff.1 (h.owners e he)
    rw [hge] at ha
    rcases hg with hg | hg <;> rw [hg] at ha <;> rcases ha with ha | ha <;> cases ha
  · obtain ⟨hage, hquiet, -⟩ := h.closing g hg
    exact ⟨hage, hquiet⟩
  · obtain ⟨-, -, hcov⟩ := h.closing g hg
    exact hcov
  · obtain ⟨hage, hquiet⟩ := (h g).stopped hg
    exact ⟨hage, hquiet, (h g).covered hg⟩
  · rw [active_iff]
    rcases hs : s.groups[s.entries[e].group].state
    case holding => exact .inl rfl
    case closing => exact .inr rfl
    case idle => exact absurd rfl (((h s.entries[e].group).resting (.inl hs)).2 e he)
    case closed => exact absurd rfl (((h s.entries[e].group).resting (.inr hs)).2 e he)

/-- The invariant that the commands keep: the records fit, and every entry in the store is below the counter (R12). -/
structure GroupsReady (s : State) : Prop where
  fits : ∀ g : GroupIx, GroupFits s.entries g s.groups[g]
  below : ∀ e : EntryIx, inStore s.entries[e] → s.entries[e].seq < s.seqCounter

theorem groupsReady_of {s : State} (hs : StoreSound s) (hg : GroupsSound s) : GroupsReady s :=
  ⟨groupsSound_iff.1 hg, fun e he => hs.below e fun hf => by
    rcases he with he | he <;> rw [hf] at he <;> cases he⟩

theorem GroupsReady.sound {s : State} (h : GroupsReady s) : GroupsSound s := groupsSound_iff.2 h.fits

/-! ## Operations that leave the group records alone -/

/-- The group records and the counter stay, and no entry comes to be in the store. -/
structure GroupsKept (s t : State) : Prop where
  groups : t.groups = s.groups
  seqCounter : t.seqCounter = s.seqCounter
  entries : ∀ e : EntryIx, inStore t.entries[e] →
    inStore s.entries[e] ∧ t.entries[e].group = s.entries[e].group ∧ t.entries[e].seq = s.entries[e].seq

section Kept

variable {s t u : State}

theorem GroupFits.of_entries {v w : Vector Entry Config.numEntries} {g : GroupIx} {x : Group} (h : GroupFits v g x)
    (hw : ∀ e : EntryIx, inStore w[e] → inStore v[e] ∧ w[e].group = v[e].group ∧ w[e].seq = v[e].seq) :
    GroupFits w g x where
  resting hx := by
    obtain ⟨hq, hn⟩ := h.resting hx
    refine ⟨hq, fun e he => ?_⟩
    obtain ⟨hv, hg, -⟩ := hw e he
    rw [hg]
    exact hn e hv
  holding := h.holding
  stopped := h.stopped
  covered hx := by
    obtain ⟨m, hm, hc⟩ := h.covered hx
    refine ⟨m, hm, fun e he hg => ?_⟩
    obtain ⟨hv, hge, hs⟩ := hw e he
    rw [hs]
    exact hc e hv (hge ▸ hg)

theorem GroupsKept.ready (k : GroupsKept s t) (h : GroupsReady s) : GroupsReady t where
  fits g := by
    rw [k.groups]
    exact (h.fits g).of_entries k.entries
  below e he := by
    obtain ⟨hs, -, hq⟩ := k.entries e he
    rw [hq, k.seqCounter]
    exact h.below e hs

theorem GroupsKept.refl (s : State) : GroupsKept s s := ⟨rfl, rfl, fun _ h => ⟨h, rfl, rfl⟩⟩

theorem GroupsKept.trans (h : GroupsKept s t) (k : GroupsKept t u) : GroupsKept s u where
  groups := k.groups.trans h.groups
  seqCounter := k.seqCounter.trans h.seqCounter
  entries e he := by
    obtain ⟨ht, hg, hq⟩ := k.entries e he
    obtain ⟨hs, hg', hq'⟩ := h.entries e ht
    exact ⟨hs, hg.trans hg', hq.trans hq'⟩

theorem GroupsKept.of_eq (hg : t.groups = s.groups) (he : t.entries = s.entries) (hc : t.seqCounter = s.seqCounter) :
    GroupsKept s t := ⟨hg, hc, fun e h => by rw [he] at h ⊢; exact ⟨h, rfl, rfl⟩⟩

theorem GroupsKept.foldl {α : Type} {f : State → α → State} (h : ∀ s a, GroupsKept s (f s a)) (l : List α) (s : State) :
    GroupsKept s (l.foldl f s) := by
  induction l generalizing s with
  | nil => exact .refl s
  | cons a l ih => exact (h s a).trans (ih (f s a))

/-- One entry changes, and keeps its group and number if it is in the store afterwards. -/
theorem GroupsKept.of_entry {e : EntryIx} {x : Entry} (hg : t.groups = s.groups) (hc : t.seqCounter = s.seqCounter)
    (he : t.entries = s.entries.set e x)
    (hx : inStore x → inStore s.entries[e] ∧ x.group = s.entries[e].group ∧ x.seq = s.entries[e].seq) :
    GroupsKept s t where
  groups := hg
  seqCounter := hc
  entries f hf := by
    have hset : t.entries[f] = if f = e then x else s.entries[f] := by rw [he, getElem_set_fin]
    by_cases h : f = e
    · rw [if_pos h] at hset
      rw [hset] at hf ⊢
      exact h ▸ hx hf
    · rw [if_neg h] at hset
      rw [hset] at hf ⊢
      exact ⟨hf, rfl, rfl⟩

theorem kept_settle (s : State) : GroupsKept s (settle s) := .of_eq settle_groups settle_entries settle_seqCounter

theorem kept_takeWake (s : State) : GroupsKept s (takeWake s) :=
  .of_eq takeWake_groups takeWake_entries takeWake_seqCounter

theorem kept_respondAll (ws : List Waiter) (r : Response) (s : State) : GroupsKept s (respondAll ws r s) :=
  .foldl (f := fun s (w : Waiter) => respond w.initiator w.tag r s) (fun _ _ => .of_eq rfl rfl rfl) ws s

theorem not_inStore_cleared (data : Line) : ¬inStore (.cleared data) := by
  rintro (h | h) <;> cases h

theorem kept_startRelease {e : EntryIx} (he : s.entries[e].state = .held) : GroupsKept s (startRelease e s) :=
  .of_entry rfl rfl rfl fun _ => ⟨.inl he, rfl, rfl⟩

theorem kept_releaseToFree (e : EntryIx) (s : State) : GroupsKept s (releaseToFree e s) := by
  have h := kept_respondAll s.entries[e].waiters .done s
  have hi := respondAll_internal s.entries[e].waiters .done s
  refine .of_entry (e := e) (x := .cleared s.entries[e].data) h.groups h.seqCounter ?_
    fun hx => absurd hx (not_inStore_cleared _)
  show (respondAll s.entries[e].waiters .done s).entries.set e _ = _
  rw [hi.entries]

theorem kept_releaseToFaulted (e : EntryIx) (k : FaultIx) (c : FailCause) (s : State) :
    GroupsKept s (releaseToFaulted e k c s) := by
  have h := kept_respondAll s.entries[e].waiters (.error .memory) s
  have hi := respondAll_internal s.entries[e].waiters (.error .memory) s
  refine .of_entry (e := e) (x := { s.entries[e] with state := .faulted, waiters := [], faultSlot := some k }) h.groups
    h.seqCounter ?_ fun hx => by rcases hx with hx | hx <;> cases hx
  show (respondAll s.entries[e].waiters (.error .memory) s).entries.set e _ = _
  rw [hi.entries]

theorem kept_releaseToHeld {e : EntryIx} (he : s.entries[e].state = .releasing) : GroupsKept s (releaseToHeld e s) :=
  .of_entry rfl rfl rfl fun _ => ⟨.inr he, rfl, rfl⟩

theorem kept_setEntry {e : EntryIx} {x : Entry} (hst : x.state = s.entries[e].state) (hg : x.group = s.entries[e].group)
    (hq : x.seq = s.entries[e].seq) : GroupsKept s (setEntry e x s) :=
  .of_entry rfl rfl rfl fun hx => ⟨by rwa [inStore, hst] at hx, hg, hq⟩

theorem kept_merge (e : EntryIx) (m : Mask) (b : Line) (ws : List Waiter) (s : State) :
    GroupsKept s (merge e m b ws s) :=
  kept_setEntry rfl rfl rfl

theorem kept_discard (e : EntryIx) (s : State) : GroupsKept s (discard e s) :=
  .of_entry (x := .cleared s.entries[e].data) rfl rfl rfl fun hx => absurd hx (not_inStore_cleared _)

theorem kept_refuseWaiters (s : State) (e : EntryIx) : GroupsKept s (refuseWaiters s e) := by
  unfold refuseWaiters
  dsimp only
  split
  · have h := respondAll_internal s.entries[e].waiters (.error .unavailable) s
    refine (kept_respondAll s.entries[e].waiters (.error .unavailable) s).trans (kept_setEntry ?_ ?_ ?_) <;> rw [h.entries]
  · exact .refl s

end Kept

/-! ## Records that fit -/

section Fits

variable {v : Vector Entry Config.numEntries} {g : GroupIx} {x : Group} {m : Seq}

/-- The running fields are all that the invariant reads of a record. -/
theorem GroupFits.of_running {y : Group} (h : GroupFits v g x) (hs : y.state = x.state) (ha : y.ageTimer = x.ageTimer)
    (hq : y.quietTimer = x.quietTimer) (hw : y.writeCount = x.writeCount) (he : y.episode = x.episode)
    (hp : y.pendingRelease = x.pendingRelease) : GroupFits v g y where
  resting hy := by
    rw [quiet, ha, hq, hw, he, hp]
    exact h.resting (hs ▸ hy)
  holding hy := by
    rw [he]
    exact h.holding (hs ▸ hy)
  stopped hy := by
    rw [ha, hq]
    exact h.stopped (hs ▸ hy)
  covered hy := by
    rw [he]
    exact h.covered (hs ▸ hy)

theorem fits_of_holding (h : x.state = .holding) (he : x.episode ≠ .noMark) : GroupFits v g x where
  resting hx := by rcases hx with hx | hx <;> rw [h] at hx <;> cases hx
  holding _ := he
  stopped hx := by rw [h] at hx; cases hx
  covered hx := by rw [h] at hx; cases hx

/-- R100: a mark that covers the whole store fits an active group whose timers are as its state has them. -/
theorem fits_withEpisode (ha : x.state = .holding ∨ x.state = .closing)
    (hst : x.state = .closing → x.ageTimer = none ∧ x.quietTimer = none)
        (hm : ∀ e : EntryIx, inStore v[e] → v[e].seq ≤ m) :
    GroupFits v g (withEpisode (.mark m) x) where
  resting hx := by
    rcases ha with ha | ha <;> rcases hx with hx | hx <;> exact absurd (ha.symm.trans hx) (by decide)
  holding _ := nofun
  stopped := hst
  covered _ := ⟨m, rfl, fun e he _ => hm e he⟩

theorem GroupFits.withPending (h : GroupFits v g x) {b : Bool}
    (hb : b = true → x.state = .holding ∨ x.state = .closing) :
    GroupFits v g (withPending b x) where
  resting hx := by
    obtain ⟨⟨ha, hq, hw, he, -⟩, hn⟩ := h.resting hx
    refine ⟨⟨ha, hq, hw, he, ?_⟩, hn⟩
    show b = false
    rcases b with _ | _
    · rfl
    · rcases hb rfl with hs | hs <;> rcases hx with hx | hx <;> exact absurd (hs.symm.trans hx) (by decide)
  holding := h.holding
  stopped := h.stopped
  covered := h.covered

/-- R92, R104: the record after the end of an episode fits; a CLOSING group that has come to CLOSED owns nothing more. -/
theorem GroupFits.ended (h : GroupFits v g x) (s : State) (n : Nat)
    (hn : ∀ m, x.episode = .mark m → ∀ e : EntryIx, inStore v[e] → v[e].group = g → ¬v[e].seq ≤ m) :
    GroupFits v g (endedGroup s x n) := by
  rcases hs : x.state
  case holding =>
    rw [endedGroup_holding hs]
    exact fits_of_holding hs nofun
  case closing =>
    rw [endedGroup_closing hs]
    refine ⟨fun _ => ⟨⟨rfl, rfl, rfl, rfl, rfl⟩, fun e he hg => ?_⟩, nofun, nofun, nofun⟩
    obtain ⟨m, hm, hc⟩ := h.covered hs
    exact hn m hm e he hg (hc e he hg)
  all_goals
    have hrest := h.resting (by simp [hs])
    obtain ⟨⟨ha, hq, hw, he, hp⟩, hnone⟩ := hrest
    have hsame : endedGroup s x n = { x with episode := .absent, writeCount := 0, pendingRelease := false } := by
      unfold endedGroup
      simp only [hs]
    rw [hsame]
    exact h.of_running rfl rfl rfl hw.symm he.symm hp.symm

theorem fits_testedGroup {s : State} (h : GroupFits s.entries g s.groups[g]) :
    GroupFits s.entries g (testedGroup s g) := by
  unfold testedGroup
  split
  · next hends =>
    refine h.ended s _ fun m hm e he hg hq => ?_
    have hh : episodeHolds s g = true := episodeHolds_iff.2 ⟨m, hm, e, he, hg, hq⟩
    rw [episodeEnds, hh, Bool.not_true, Bool.and_false] at hends
    cases hends
  · exact h

end Fits

/-! ## The operations of the group unit -/

section Operations

variable {s : State} {g : GroupIx} {gs : List GroupIx} {m : Seq}

/-- Internal work keeps the invariant where the records it leaves fit. -/
theorem ready_of_internal {t : State} (h : GroupsReady s) (hi : Internal s t)
    (hfits : ∀ j : GroupIx, GroupFits s.entries j t.groups[j]) : GroupsReady t where
  fits := by rw [hi.entries]; exact hfits
  below := by rw [hi.entries, hi.seqCounter]; exact h.below

theorem ready_setGroup {x : Group} (h : GroupsReady s) (hx : GroupFits s.entries g x) :
    GroupsReady (setGroup g x s) where
  fits j := by
    rw [setGroup_group]
    split
    · next hj => exact hj ▸ hx
    · exact h.fits j
  below := h.below

theorem ready_mapGroups {f : Group → Group} (h : GroupsReady s) (hf : ∀ j ∈ gs, GroupFits s.entries j (f s.groups[j])) :
    GroupsReady (mapGroups gs f s) where
  fits j := by
    rw [mapGroups_group]
    split
    · next hj => exact hf j hj
    · exact h.fits j
  below := h.below

theorem ready_testEpisodes (gs : List GroupIx) (h : GroupsReady s) : GroupsReady (testEpisodes gs s) :=
  ready_of_internal h (testEpisodes_internal gs s) fun j => by
    rw [testEpisodes_group]
    split
    · exact fits_testedGroup (h.fits j)
    · exact h.fits j

theorem ready_testEpisode (g : GroupIx) (h : GroupsReady s) : GroupsReady (testEpisode g s) := ready_testEpisodes [g] h

theorem ready_testDrains (g : GroupIx) (h : GroupsReady s) : GroupsReady (testDrains g s) :=
  (GroupsKept.of_eq testDrains_groups testDrains_entries testDrains_seqCounter).ready h

theorem ready_groupReport (g : GroupIx) (h : GroupsReady s) : GroupsReady (groupReport g s) :=
  ready_testDrains g (ready_testEpisode g h)

/-- R101: pending releases are set in active groups alone. -/
theorem ready_setPendings (h : GroupsReady s) (b : Bool) (ha : ∀ j ∈ gs, active s j = true) :
    GroupsReady (gs.foldl (setPendingRelease b) s) := by
  rw [setPendingReleases_eq]
  exact ready_mapGroups h fun j hj => (h.fits j).withPending fun _ => active_iff.1 (ha j hj)

theorem ready_requestWake (h : GroupsReady s) (ha : ∀ j ∈ gs, active s j = true) : GroupsReady (requestWake gs s) := by
  have hset (b : Bool) : GroupsReady ((gs.filter (coveredHeld s)).foldl (setPendingRelease b) s) :=
    ready_setPendings h b fun j hj => ha j (List.mem_filter.1 hj).1
  unfold requestWake
  dsimp only
  split
  · exact h
  split
  · exact hset true
  split
  · exact hset true
  split
  · exact hset false
  · exact (kept_takeWake s).ready h

theorem ready_drainWake (h : GroupsReady s) (ha : ∀ j ∈ gs, active s j = true) : GroupsReady (drainWake gs s) := by
  unfold drainWake
  dsimp only
  split
  · exact h
  split
  · exact ready_setPendings h true fun j hj => ha j (List.mem_filter.1 hj).1
  · exact (kept_takeWake s).ready h

/-- R12: the newest number covers every entry in the store. -/
theorem newest_covers (hb : ∀ e : EntryIx, inStore s.entries[e] → s.entries[e].seq < s.seqCounter)
    (hm : newest s = some m)
    {e : EntryIx} (he : inStore s.entries[e]) : s.entries[e].seq ≤ m := by
  unfold newest at hm
  split at hm
  · cases hm
  · next hc =>
    cases hm
    have hlt := hb e he
    have hne : s.seqCounter ≠ 0 := fun h => hc (beq_iff_eq.2 h)
    rw [BitVec.lt_def] at hlt
    rw [BitVec.le_def, BitVec.toNat_sub_of_le (by rw [BitVec.le_def]; exact Nat.one_le_of_lt hlt)]
    exact Nat.le_sub_one_of_lt hlt

/-- What a release request needs: the entries are below the counter and every record fits, but for the cover of the
group's own episode. -/
structure GroupsRequesting (s : State) (g : GroupIx) : Prop where
  others : ∀ j : GroupIx, j ≠ g → GroupFits s.entries j s.groups[j]
  stopped : s.groups[g].state = .closing → s.groups[g].ageTimer = none ∧ s.groups[g].quietTimer = none
  below : ∀ e : EntryIx, inStore s.entries[e] → s.entries[e].seq < s.seqCounter

theorem GroupsReady.requesting (h : GroupsReady s) (g : GroupIx) : GroupsRequesting s g :=
  ⟨fun j _ => h.fits j, (h.fits g).stopped, h.below⟩

theorem marked_group (gs : List GroupIx) (s : State) (j : GroupIx) :
    (marked m gs s).groups[j] = if j ∈ gs then withEpisode (.mark m) s.groups[j] else s.groups[j] := mapGroups_group ..

theorem marked_active {j : GroupIx} : active (marked m gs s) j = active s j := by
  unfold active
  rw [marked_group]
  split <;> rfl

theorem reached_active {j : GroupIx} (ha : active s g = true) (hj : j ∈ reached s g) : active s j = true := by
  rcases mem_reached.1 hj with rfl | ⟨-, hs, -⟩
  · exact ha
  · exact active_iff.2 (.inl hs)

/-- R100: a release request of an active group marks records so that they fit, its own among them. -/
theorem ready_marked (hm : newest s = some m) (ha : active s g = true) (h : GroupsRequesting s g) :
    GroupsReady (marked m (reached s g) s) where
  fits j := by
    rw [marked_group]
    split
    · next hj =>
      refine fits_withEpisode (active_iff.1 (reached_active ha hj)) ?_ fun e he => newest_covers h.below hm he
      by_cases hjg : j = g
      · rw [hjg]
        exact h.stopped
      · exact (h.others j hjg).stopped
    · next hj => exact h.others j fun hjg => hj (mem_reached.2 (.inl hjg))
  below := h.below

theorem ready_request (hm : newest s = some m) (ha : active s g = true) (h : GroupsRequesting s g) :
    GroupsReady (releaseRequest g s) := by
  rw [releaseRequest_marked hm ha]
  refine ready_testEpisodes _ (ready_requestWake (ready_marked hm ha h) fun j hj => ?_)
  rw [marked_active]
  exact reached_active ha hj

theorem ready_releaseRequest (g : GroupIx) (h : GroupsReady s) : GroupsReady (releaseRequest g s) := by
  rcases hm : newest s with _ | m
  · unfold releaseRequest
    rw [hm]
    exact h
  · rcases ha : active s g with _ | _
    · rw [releaseRequest_idle (.inr ha)]
      exact h
    · exact ready_request hm ha (h.requesting g)

theorem ready_drainRequests (groups : BitVec 4) (h : GroupsReady s) : GroupsReady (drainRequests groups s) := by
  rcases hm : newest s with _ | m
  · unfold drainRequests
    rw [hm]
    exact h
  · rw [drainRequests_marked hm rfl]
    have hactive (j : GroupIx)
        (hj : j ∈ ((List.finRange 4).filter fun g : GroupIx => groups.getLsbD g.val && active s g).flatMap (reached s)) :
        active s j = true := by
      obtain ⟨g, hg, hj⟩ := List.mem_flatMap.1 hj
      have hga := (List.mem_filter.1 hg).2
      rw [Bool.and_eq_true] at hga
      exact reached_active hga.2 hj
    refine ready_testEpisodes _ (ready_drainWake ?_ fun j hj => marked_active.trans (hactive j hj))
    exact ready_mapGroups h fun j hj =>
      fits_withEpisode (active_iff.1 (hactive j hj)) (h.fits j).stopped fun e he => newest_covers h.below hm he

theorem ready_heldRose (g : GroupIx) (h : GroupsReady s) : GroupsReady (heldRose g s) := by
  by_cases hg : s.groups[g].state = .holding
  · have hage : GroupsReady (ageStarted g s) := by
      unfold ageStarted
      split
      · exact ready_setGroup h (fits_of_holding hg ((h.fits g).holding hg))
      · exact h
    rw [heldRose_holding hg]
    split
    · exact ready_releaseRequest g hage
    · exact hage
  · rw [heldRose, if_neg hg]
    exact h

theorem ready_writeReport (g : GroupIx) (h : GroupsReady s) : GroupsReady (writeReport g s) := by
  by_cases hg : s.groups[g].state = .holding
  · have hset := ready_setGroup h (g := g)
      (x := { s.groups[g] with quietTimer := some s.timestamp, writeCount := countWrite s.groups[g].writeCount })
      (fits_of_holding hg ((h.fits g).holding hg))
    rw [writeReport_holding hg]
    split
    · exact ready_releaseRequest g hset
    · exact hset
  · rw [writeReport, if_neg hg]
    exact h

theorem ready_clearPendingReleases (h : GroupsReady s) : GroupsReady (clearPendingReleases s) := by
  unfold clearPendingReleases
  split
  · exact h
  · refine ⟨fun j => ?_, h.below⟩
    have hj : (s.groups.map fun x => { x with pendingRelease := false })[j] = withPending false s.groups[j] :=
      getElem_map_fin ..
    rw [hj]
    exact (h.fits j).withPending nofun

theorem ready_payPendingRelease (g : GroupIx) (h : GroupsReady s) : GroupsReady (payPendingRelease s g) := by
  have hset {t : State} (ht : GroupsReady t) : GroupsReady (setPendingRelease false t g) :=
    ready_setGroup ht ((ht.fits g).withPending (b := false) nofun)
  unfold payPendingRelease
  split
  · exact h
  split
  · exact h
  split
  · exact hset h
  · exact hset ((kept_takeWake s).ready h)

theorem ready_foldl {α : Type} {f : State → α → State} (hf : ∀ s a, GroupsReady s → GroupsReady (f s a)) (l : List α)
    (h : GroupsReady s) : GroupsReady (l.foldl f s) := by
  induction l generalizing s with
  | nil => exact h
  | cons a l ih => exact ih (hf s a h)

theorem ready_liftHalt (h : GroupsReady s) : GroupsReady (liftHalt s) := by
  have hpaid := ready_foldl (fun s g => ready_payPendingRelease (s := s) g) (List.finRange Config.numGroups) h
  unfold liftHalt
  dsimp only
  split
  · exact (kept_takeWake _).ready hpaid
  · exact hpaid

theorem ready_removeRecordOf (e : EntryIx) (h : GroupsReady s) : GroupsReady (removeRecordOf e s) := by
  unfold removeRecordOf removeFaultAndLift
  split
  · next k _ =>
    have hremoved : GroupsReady (removeFault k s) :=
      (GroupsKept.of_eq (s := s) (t := removeFault k s) rfl rfl rfl).ready h
    dsimp only
    split
    · exact ready_liftHalt hremoved
    · exact hremoved
  · exact h

end Operations

end Sys2Proof.Proofs

/-! PROOFS. The lift of the release halt (R102, R121, R134) as one change of the records and one wake. -/

namespace Sys2Proof.Proofs

open Sys2Proof Sys2Proof.Machine

section Halt

variable {s : State} {gs : List GroupIx}

/-- R145: a second wake cause adds nothing to the first. -/
theorem takeWake_takeWake (s : State) : takeWake (takeWake s) = takeWake s := by
  unfold takeWake
  rcases h : s.power.state <;> simp [setPower, wakeAttempt, sendDown, h]

theorem takeWake_mapGroups (gs : List GroupIx) (f : Group → Group) (s : State) :
    takeWake (mapGroups gs f s) = mapGroups gs f (takeWake s) := by
  rw [takeWake_eq, takeWake_eq]
  rfl

/-- R102: what is owed is kept while window mode is on and the memory asleep. -/
def keepsOwed (s : State) : Bool := windowMode s && s.power.state == .asleep

/-- A wake cause leaves no memory asleep, so nothing owed is kept after it. -/
theorem keepsOwed_takeWake (s : State) : keepsOwed (takeWake s) = false := by
  unfold keepsOwed takeWake
  rcases h : s.power.state <;> simp [setPower, wakeAttempt, sendDown, h]

theorem payPendingRelease_kept (h : keepsOwed s = true) (g : GroupIx) : payPendingRelease s g = s := by
  unfold payPendingRelease
  rw [show (windowMode s && s.power.state == .asleep) = true from h, if_pos rfl, ite_self]

theorem payPendingRelease_quiet {g : GroupIx} (h : s.groups[g].pendingRelease = false) : payPendingRelease s g = s := by
  unfold payPendingRelease
  rw [h]
  rfl

theorem payPendingRelease_paid {g : GroupIx} (h : s.groups[g].pendingRelease = true) (hk : keepsOwed s = false) :
    payPendingRelease s g = setPendingRelease false (takeWake s) g := by
  unfold payPendingRelease
  rw [h, show (windowMode s && s.power.state == .asleep) = false from hk]
  rcases ha : (s.power.state == .awake) with _ | _
  · rfl
  · rw [beq_iff_eq] at ha
    rw [takeWake_of_ignored (by rw [ha]; exact nofun) (by rw [ha]; exact nofun)]
    rfl

/-- R102: paying the groups one by one is clearing their records together, with one wake where one was owed. -/
theorem payAll_eq (hk : keepsOwed s = false) (gs : List GroupIx) :
    gs.foldl payPendingRelease s =
      if ∃ g ∈ gs, s.groups[g].pendingRelease = true then takeWake (mapGroups gs (withPending false) s)
      else mapGroups gs (withPending false) s := by
  induction gs generalizing s with
  | nil => rw [if_neg (by simp), mapGroups_nil, List.foldl_nil]
  | cons g gs ih =>
    rw [List.foldl_cons]
    rcases hp : s.groups[g].pendingRelease with _ | _
    · have hrec : mapGroups (g :: gs) (withPending false) s = mapGroups gs (withPending false) s := by
        have hg : (mapGroups (g :: gs) (withPending false) s).groups = (mapGroups gs (withPending false) s).groups :=
          ext_fin fun j => by
            simp only [mapGroups_group, List.mem_cons]
            by_cases hj : j = g
            · subst hj
              have hsame : withPending false s.groups[j] = s.groups[j] := by rw [withPending, ← hp]
              rw [if_pos (.inl rfl), hsame, ite_self]
            · simp only [hj, false_or]
        rw [show mapGroups (g :: gs) (withPending false) s =
          { s with groups := (mapGroups (g :: gs) (withPending false) s).groups } from rfl, hg]
        rfl
      have hany : (∃ j ∈ g :: gs, s.groups[j].pendingRelease = true) ↔ ∃ j ∈ gs, s.groups[j].pendingRelease = true := by
        rw [List.exists_mem_cons_iff, hp]
        simp
      rw [payPendingRelease_quiet hp, ih hk, hrec, if_congr hany rfl rfl]
    · have hset : setPendingRelease false (takeWake s) g = mapGroups [g] (withPending false) (takeWake s) :=
        setPendingReleases_eq false [g] (takeWake s)
      have hkept : keepsOwed (mapGroups [g] (withPending false) (takeWake s)) = false := keepsOwed_takeWake s
      have hrec : mapGroups gs (withPending false) (mapGroups [g] (withPending false) (takeWake s)) =
          takeWake (mapGroups (g :: gs) (withPending false) s) := by
        rw [takeWake_mapGroups, ← setPendingReleases_eq false [g], ← setPendingReleases_eq, ← setPendingReleases_eq]
        rfl
      rw [payPendingRelease_paid hp hk, hset, ih hkept, hrec, takeWake_takeWake, ite_self,
        if_pos ⟨g, List.mem_cons_self, hp⟩]

theorem payAll_kept (h : keepsOwed s = true) (gs : List GroupIx) : gs.foldl payPendingRelease s = s := by
  induction gs with
  | nil => rfl
  | cons g gs ih => rw [List.foldl_cons, payPendingRelease_kept h, ih]

/-- R102, R134: the records after the lift of the halt. -/
def paidGroups (s : State) : State :=
  mapGroups (List.finRange Config.numGroups) (fun x => withPending (keepsOwed s && x.pendingRelease) x) s

theorem paidGroups_group (s : State) (g : GroupIx) :
    (paidGroups s).groups[g] = withPending (keepsOwed s && s.groups[g].pendingRelease) s.groups[g] := by
  rw [paidGroups, mapGroups_group, if_pos (List.mem_finRange g)]

/-- R102, R121, R134: the lift posts one wake where a release is owed and not kept, or where pressure stands. -/
theorem liftHalt_eq (s : State) :
    liftHalt s =
      if s.pressure = true ∨ (keepsOwed s = false ∧ ∃ g : GroupIx, s.groups[g].pendingRelease = true) then
        takeWake (paidGroups s)
      else paidGroups s := by
  unfold liftHalt
  dsimp only
  rcases hk : keepsOwed s with _ | _
  · have hpaid : paidGroups s = mapGroups (List.finRange Config.numGroups) (withPending false) s := by
      unfold paidGroups
      simp only [hk, Bool.false_and]
    have hany : (∃ g ∈ List.finRange Config.numGroups, s.groups[g].pendingRelease = true) ↔
        ∃ g : GroupIx, s.groups[g].pendingRelease = true := by simp
    rw [payAll_eq hk, if_congr hany rfl rfl, ← hpaid]
    by_cases ho : ∃ g : GroupIx, s.groups[g].pendingRelease = true
    · rw [if_pos ho, takeWake_takeWake, ite_self, if_pos (.inr ⟨rfl, ho⟩)]
    · rw [if_neg ho, show (paidGroups s).pressure = s.pressure from rfl]
      by_cases hp : s.pressure = true
      · rw [if_pos hp, if_pos (.inl hp)]
      · rw [if_neg hp, if_neg fun h => h.elim hp fun h => ho h.2]
  · have hpaid : paidGroups s = s := by
      have hg : (paidGroups s).groups = s.groups := ext_fin fun j => by
        rw [paidGroups_group, hk, Bool.true_and]
        rfl
      rw [show paidGroups s = { s with groups := (paidGroups s).groups } from rfl, hg]
    rw [payAll_kept hk, hpaid]
    refine if_congr ?_ rfl rfl
    simp

/-- The lift of the halt changes pending releases alone among the records. -/
theorem liftHalt_group (s : State) (g : GroupIx) :
    (liftHalt s).groups[g] = withPending (keepsOwed s && s.groups[g].pendingRelease) s.groups[g] := by
  rw [liftHalt_eq]
  split
  · rw [takeWake_group, paidGroups_group]
  · exact paidGroups_group s g

theorem removeRecordOf_group (e : EntryIx) (s : State) (g : GroupIx) :
    ∃ b, (removeRecordOf e s).groups[g] = withPending b s.groups[g] := by
  unfold removeRecordOf removeFaultAndLift
  split
  · next k _ =>
    dsimp only
    split
    · exact ⟨_, liftHalt_group _ g⟩
    · exact ⟨s.groups[g].pendingRelease, rfl⟩
  · exact ⟨s.groups[g].pendingRelease, rfl⟩

end Halt

end Sys2Proof.Proofs

/-! PROOFS. Every command keeps the group records sound, family by family. -/

namespace Sys2Proof.Proofs

open Sys2Proof Sys2Proof.Machine

/-! ## Entries that join the store -/

section Joins

variable {s t : State} {e : EntryIx} {i : InitIx} {r : Request}

theorem GroupFits.of_added {v : Vector Entry Config.numEntries} {g : GroupIx} {x : Group} {y : Entry}
    (h : GroupFits v g x) (hy : y.group = g → x.state = .holding) : GroupFits (v.set e y) g x := by
  have hset (f : EntryIx) : (v.set e y)[f] = if f = e then y else v[f] := getElem_set_fin ..
  refine ⟨fun hx => ?_, h.holding, h.stopped, fun hx => ?_⟩
  · obtain ⟨hq, hn⟩ := h.resting hx
    refine ⟨hq, fun f hf => ?_⟩
    rw [hset] at hf ⊢
    split at hf
    · next hfe =>
      rw [if_pos hfe]
      intro hg
      rw [hy hg] at hx
      rcases hx with hx | hx <;> cases hx
    · next hfe =>
      rw [if_neg hfe]
      exact hn f hf
  · obtain ⟨m, hm, hc⟩ := h.covered hx
    refine ⟨m, hm, fun f hf hg => ?_⟩
    rw [hset] at hf hg ⊢
    split at hf
    · next hfe =>
      rw [if_pos hfe] at hg
      exact absurd ((hy hg).symm.trans hx) (by decide)
    · next hfe =>
      rw [if_neg hfe] at hg ⊢
      exact hc f hf hg

/-- R12: an entry that takes the next number stands below the counter's next value. -/
theorem below_added {x : Entry} (h : ∀ f : EntryIx, inStore s.entries[f] → s.entries[f].seq < s.seqCounter)
    (hc : s.seqCounter ≠ topSeq) (hx : x.seq = s.seqCounter) (f : EntryIx) (hf : inStore (s.entries.set e x)[f]) :
    (s.entries.set e x)[f].seq < s.seqCounter + 1 := by
  have hset : (s.entries.set e x)[f] = if f = e then x else s.entries[f] := getElem_set_fin ..
  obtain ⟨hlt, hle⟩ := seq_lt_succ hc
  rw [hset] at hf ⊢
  split at hf
  · next hfe => rw [if_pos hfe, hx]; exact hlt
  · next hfe => rw [if_neg hfe]; exact seq_lt_of_lt_of_le (h f hf) hle

theorem ready_allocate {l : LineAddr} {g : GroupIx} {m : Mask} {b : Line} {ws : List Waiter} (h : GroupsReady s)
    (hg : s.groups[g].state = .holding) (hc : s.seqCounter ≠ topSeq) : GroupsReady (allocate e l g m b ws s) where
  fits j := (h.fits j).of_added fun hj => by
    have : g = j := hj
    rw [← this]
    exact hg
  below := below_added h.below hc rfl

theorem GroupsKept.requesting {g : GroupIx} (k : GroupsKept s t) (h : GroupsRequesting s g) : GroupsRequesting t g where
  others j hj := by
    rw [k.groups]
    exact (h.others j hj).of_entries k.entries
  stopped := by
    rw [k.groups]
    exact h.stopped
  below f hf := by
    obtain ⟨hs, -, hq⟩ := k.entries f hf
    rw [hq, k.seqCounter]
    exact h.below f hs

/-- R22: a re-entry fits every group but its own, whose release request covers it. -/
theorem requesting_reenter (h : GroupsReady s) (hc : s.seqCounter ≠ topSeq) :
    GroupsRequesting (reenter e s) s.entries[e].group where
  others j hj := (h.fits j).of_added fun hg => absurd (Eq.symm hg) hj
  stopped := (h.fits _).stopped
  below := below_added h.below hc rfl

theorem ready_reenter_holding (h : GroupsReady s) (hc : s.seqCounter ≠ topSeq)
    (hg : s.groups[s.entries[e].group].state = .holding) : GroupsReady (reenter e s) where
  fits j := (h.fits j).of_added fun hj => by
    have : s.entries[e].group = j := hj
    rw [← this]
    exact hg
  below := below_added h.below hc rfl

theorem newest_reenter (hc : s.seqCounter ≠ topSeq) : newest (reenter e s) = some s.seqCounter := by
  refine newest_some (m := s.seqCounter) rfl fun h0 => ?_
  obtain ⟨hlt, -⟩ := seq_lt_succ hc
  have : s.seqCounter + 1 = 0 := h0
  rw [this] at hlt
  exact absurd hlt (by simp)

end Joins

/-! ## Small updates -/

section Small

variable (s : State)

theorem kept_endStalls : GroupsKept s (endStalls s) := .of_eq rfl rfl rfl

theorem kept_setPower (p : Power) : GroupsKept s (setPower p s) := .of_eq rfl rfl rfl

theorem kept_setRegs (r : Regs) : GroupsKept s (setRegs r s) := .of_eq rfl rfl rfl

theorem kept_carryReads (l : LineAddr) : GroupsKept s (carryReads l s) := .of_eq rfl rfl rfl

theorem kept_sendDown (m : DownMessage) : GroupsKept s (sendDown m s) := .of_eq rfl rfl rfl

theorem kept_occupy (k : TagIx) (op : SlotOp) (n : Nat) : GroupsKept s (occupy k op n s) := .of_eq rfl rfl rfl

theorem kept_setSlot (k : TagIx) (x : Slot) : GroupsKept s (setSlot k x s) := .of_eq rfl rfl rfl

theorem kept_raise (c : EventCause) : GroupsKept s (raise c s) := .of_eq rfl rfl rfl

theorem kept_wakeAttempt (n : Nat) : GroupsKept s (wakeAttempt n s) := .of_eq rfl rfl rfl

theorem kept_countWake : GroupsKept s (countWake s) := .of_eq rfl rfl rfl

theorem kept_setFrame (f : Option Frame) : GroupsKept s (setFrame f s) := .of_eq rfl rfl rfl

end Small

/-! ## Decisions -/

section Decisions

variable {s : State} {i : InitIx} {r : Request} {e : EntryIx} {g : GroupIx}

theorem kept_answerHead (i : InitIx) (u : UpTag) (x : Response) (s : State) : GroupsKept s (answerHead i u x s) :=
  .of_eq rfl rfl rfl

theorem kept_refuse (c : ErrorCause) (i : InitIx) (r : Request) (s : State) : GroupsKept s (refuse c i r s) :=
  .of_eq rfl rfl rfl

theorem kept_setHead (i : InitIx) (x : HeadStatus) (s : State) : GroupsKept s (setHead i x s) := .of_eq rfl rfl rfl

theorem kept_popHead (i : InitIx) (s : State) : GroupsKept s (popHead i s) := .of_eq rfl rfl rfl

theorem kept_expediteWake (b : Bool) (s : State) : GroupsKept s (expediteWake b s) := by
  unfold expediteWake
  split
  · exact .refl s
  · exact kept_takeWake s

theorem kept_becomePass (i : InitIx) (s : State) : GroupsKept s (becomePass i s) :=
  (kept_setHead i _ s).trans (kept_takeWake _)

theorem ready_mergeWrite (e : EntryIx) (i : InitIx) (r : Request) (d : Bool) (h : GroupsReady s) :
    GroupsReady (mergeWrite e i r d s) := by
  unfold mergeWrite
  dsimp only
  split
  · exact ready_writeReport _ ((((kept_merge e _ _ _ s).trans (kept_popHead i _)).trans (kept_expediteWake _ _)).ready h)
  · exact ready_writeReport _ (((kept_merge e _ _ _ s).trans (kept_answerHead i _ _ _)).ready h)

theorem ready_allocateWrite (h : GroupsReady s) (hg : s.groups[g].state = .holding) (hc : s.seqCounter ≠ topSeq)
    (d : Bool) : GroupsReady (allocateWrite e g i r d s) := by
  unfold allocateWrite
  split
  · exact ready_writeReport _ (ready_heldRose _ (((kept_popHead i _).trans (kept_takeWake _)).ready
      (ready_allocate h hg hc)))
  · exact ready_writeReport _ (ready_heldRose _ ((kept_answerHead i _ _ _).ready (ready_allocate h hg hc)))

theorem ready_decideMiss (i : InitIx) (r : Request) (h : GroupsReady s) : GroupsReady (decideMiss i r s) := by
  have hpass : GroupsReady (decidePass i r s) := by
    unfold decidePass
    split
    · exact (kept_refuse _ i r s).ready h
    · exact (kept_becomePass i s).ready h
  unfold decideMiss
  split
  · next g _ _ =>
    split
    · next hg =>
      unfold decideAllocation
      split
      · next e he =>
        split
        · exact (kept_refuse _ i r s).ready h
        · refine ready_allocateWrite h hg (fun hc => ?_) _
          rw [allocatable, if_pos (beq_iff_eq.2 hc)] at he
          cases he
      · split
        · exact (kept_refuse _ i r s).ready h
        · unfold decideByFullPolicy
          split
          · exact (kept_setHead i _ s).ready h
          · exact ((GroupsKept.of_eq (s := s) (t := countThroughWrite s) rfl rfl rfl).trans (kept_becomePass i _)).ready h
    · exact hpass
  all_goals exact hpass

theorem ready_decideWrite (i : InitIx) (r : Request) (h : GroupsReady s) : GroupsReady (decideWrite i r s) := by
  have hwait (c : WaitCause) : GroupsReady (wait c i s) := (kept_setHead i _ s).ready h
  have hrefuse (c : ErrorCause) : GroupsReady (refuse c i r s) := (kept_refuse c i r s).ready h
  unfold decideWrite
  dsimp only
  split
  · exact (GroupsKept.of_eq (s := s) (t := refuseMalformed i r s) rfl rfl rfl).ready h
  split
  · exact hrefuse _
  split
  · exact hwait _
  split
  · exact hwait _
  unfold decideByStore
  split
  · next e _ =>
    split
    · exact hrefuse _
    · exact hwait _
    · unfold decideHeld
      split
      · split
        · exact hrefuse _
        split
        · exact hwait _
        · exact ready_mergeWrite e i r true h
      · exact ready_mergeWrite e i r false h
    · exact ready_decideMiss i r h
  · exact ready_decideMiss i r h

theorem kept_readWake (s : State) : GroupsKept s (readWake s) := by
  unfold readWake
  split
  · exact kept_takeWake s
  · exact .refl s

theorem kept_decideRead (i : InitIx) (r : Request) (s : State) : GroupsKept s (decideRead i r s) := by
  have hmemory : GroupsKept s (decideMemoryRead i r s) := by
    unfold decideMemoryRead
    split
    · exact kept_refuse ..
    split
    · exact kept_setHead ..
    · exact (GroupsKept.of_eq (s := s) (t := popHead i { s with reads := s.reads ++ [newRead s i r] }) rfl rfl rfl).trans
        (kept_readWake _)
  unfold decideRead
  split
  · exact .of_eq rfl rfl rfl
  split
  · exact kept_refuse ..
  split
  · exact kept_setHead ..
  unfold decideReadByStore
  split
  · split
    · exact kept_refuse ..
    split
    · exact .of_eq rfl rfl rfl
    · exact hmemory
  · exact hmemory

theorem ready_decideDrain (i : InitIx) (r : Request) (h : GroupsReady s) : GroupsReady (decideDrain i r s) := by
  have hanswer (x : Response) : GroupsReady (answerHead i r.tag x s) := (kept_answerHead i _ x s).ready h
  unfold decideDrain
  split
  · exact (GroupsKept.of_eq (s := s) (t := refuseMalformed i r s) rfl rfl rfl).ready h
  split
  · exact hanswer _
  split
  · exact hanswer _
  · next m _ =>
    unfold decideMarkedDrain
    split
    · exact hanswer _
    split
    · exact hanswer _
    split
    · exact (kept_setHead i _ s).ready h
    · exact ready_drainRequests _ ((GroupsKept.of_eq (s := s)
        (t := popHead i { s with drains := s.drains ++ [newDrain s i r m] }) rfl rfl rfl).ready h)

theorem ready_decision {kind : Request → Bool} {d : Request → State → State} (h : GroupsReady s)
    (hd : ∀ r, GroupsReady (d r s)) : GroupsReady (decision i kind d s) := by
  unfold decision
  split
  · exact (kept_settle _).ready (hd _)
  · exact h

end Decisions

/-! ## The downstream port -/

section Port

variable {s : State} {e : EntryIx}

theorem kept_arbiterGrant (s : State) : GroupsKept s (arbiterGrant s) := by
  unfold arbiterGrant
  split
  · split
    · next p k hp _ =>
      refine GroupsKept.trans ?_ (kept_settle _)
      cases p with
      | releaseNew e =>
        rcases presented_from hp with ⟨r, -, he⟩ | hq | hq
        · cases he
        · unfold presentedPass at hq
          split at hq
          · cases hq
          · obtain ⟨y, -, hy⟩ := Option.map_eq_some_iff.1 hq
            cases hy
        · have hheld : (occupy k (.release e) 1 s).entries[e].state = .held := presentedRelease_new hq
          exact (kept_occupy s k (.release e) 1).trans ((kept_startRelease hheld).trans (kept_sendDown _ _))
      | _ => exact .of_eq rfl rfl rfl
    · exact .refl s
  · exact .refl s

theorem kept_readDone (i : InitIx) (u : UpTag) (l : Line) (s : State) : GroupsKept s (readDone i u l s) := by
  unfold readDone
  split <;> exact .of_eq rfl rfl rfl

theorem kept_readFailed (i : InitIx) (u : UpTag) (s : State) : GroupsKept s (readFailed i u s) := by
  unfold readFailed
  split
  · dsimp only
    split <;> exact .of_eq rfl rfl rfl
  · exact .refl s

theorem kept_passFailed (w : PassWrite) (a : Nat) (s : State) : GroupsKept s (passFailed w a s) := by
  unfold passFailed
  dsimp only
  split <;> exact .of_eq rfl rfl rfl

theorem kept_refuseWaitingReads (l : LineAddr) (s : State) : GroupsKept s (refuseWaitingReads l s) := by
  unfold refuseWaitingReads
  rw [(refuseRead_answering _).fold_eq]
  exact .of_eq rfl rfl rfl

theorem ready_releaseDone (e : EntryIx) (h : GroupsReady s) : GroupsReady (releaseDone e s) := by
  unfold releaseDone
  dsimp only
  split
  · exact ready_groupReport _ (((kept_releaseToFree e s).trans
      (.of_eq (t := endStalls (carryReads s.entries[e].line (releaseToFree e s))) rfl rfl rfl)).ready h)
  · exact h

theorem ready_releaseFailed (e : EntryIx) (c : FailCause) (h : GroupsReady s) : GroupsReady (releaseFailed e c s) := by
  unfold releaseFailed
  dsimp only
  split
  · next he =>
    have hcount : GroupsKept s (countRetry s) := .of_eq rfl rfl rfl
    split
    · refine (hcount.trans (.trans (.of_eq (t := { countRetry s with releaseRetries := s.releaseRetries ++ [e] })
        rfl rfl rfl) (kept_setEntry ?_ ?_ ?_))).ready h <;> rfl
    · have hnoted : GroupsKept s (setEntry e { s.entries[e] with lastCause := some c } (countRetry s)) :=
        hcount.trans (kept_setEntry (s := countRetry s) (e := e) rfl rfl rfl)
      split
      · next k _ =>
        exact ready_groupReport _ ((hnoted.trans ((kept_releaseToFaulted e k c _).trans
          (kept_refuseWaitingReads _ _))).ready h)
      · refine ready_groupReport _ (ready_heldRose _ ((hnoted.trans ((kept_releaseToHeld (e := e) ?_).trans
          (kept_carryReads _ _))).ready h))
        show (s.entries.set e _)[e].state = _
        rw [getElem_set_fin, if_pos rfl, he]
  · exact h

theorem ready_attemptFailed (op : SlotOp) (a : Nat) (c : FailCause) (h : GroupsReady s) :
    GroupsReady (attemptFailed op a c s) := by
  cases op with
  | read i t => exact (kept_readFailed i t s).ready h
  | pass w => exact (kept_passFailed w a s).ready h
  | release e => exact ready_releaseFailed e c h

theorem ready_handOver (k : CompletionKind) (op : SlotOp) (a : Nat) (bs : List Byte) (h : GroupsReady s) :
    GroupsReady (handOver k op a bs s) := by
  unfold handOver
  split
  · cases op with
    | read i t =>
      unfold attemptOk
      dsimp only
      split
      · exact (kept_readDone i t _ s).ready h
      · exact (kept_readFailed i t s).ready h
    | pass w => exact (GroupsKept.of_eq (s := s) (t := passDone w s) rfl rfl rfl).ready h
    | release e => exact ready_releaseDone e h
  · exact ready_attemptFailed op a _ h
  · exact ready_attemptFailed op a _ h

theorem ready_complete (k : CompletionKind) (j : TagIx) (bs : List Byte) (h : GroupsReady s) :
    GroupsReady (complete k j bs s) := by
  have hfreed : GroupsReady (setSlot j .free s) := (kept_setSlot s j .free).ready h
  unfold complete
  split
  · exact (kept_settle _).ready (ready_handOver k _ _ bs hfreed)
  · exact ((GroupsKept.of_eq (s := s) (t := raise .lateCompletion (setSlot j .free s)) rfl rfl rfl).trans
      (kept_settle _)).ready h
  · exact (kept_raise s _).ready h

theorem ready_timeoutSlot (j : TagIx) (h : GroupsReady s) : GroupsReady (timeoutSlot j s) := by
  unfold timeoutSlot
  split
  · split
    · exact (kept_settle _).ready (ready_attemptFailed _ _ _ ((kept_setSlot s _ _).ready h))
    · exact h
  all_goals exact h

end Port

/-! ## Power, time and the pins -/

section Power

variable {s : State}

theorem ready_enterAwake (h : GroupsReady s) : GroupsReady (enterAwake s) :=
  (kept_settle _).ready
    (ready_clearPendingReleases ((GroupsKept.of_eq (s := s) (t := wakeReads s) rfl rfl rfl).ready h))

theorem kept_freeQuarantined (s : State) : GroupsKept s (freeQuarantined s) := .of_eq rfl rfl rfl

theorem kept_countSleep (s : State) : GroupsKept s (countSleep s) := .of_eq rfl rfl rfl

theorem kept_goAsleep (s : State) : GroupsKept s (goAsleep s) := by
  have hslept := (kept_setPower s { s.power with state := .asleep }).trans
    ((kept_freeQuarantined _).trans (kept_countSleep _))
  unfold goAsleep
  dsimp only
  split
  · exact hslept.trans ((kept_setPower _ _).trans (kept_wakeAttempt _ _))
  · exact hslept.trans (kept_setPower _ _)

theorem kept_enterUnavailable (s : State) : GroupsKept s (enterUnavailable s) := by
  have hreads (s : State) : GroupsKept s (refuseAllReads s) := by
    rw [refuseAllReads, (refuseRead_answering _).fold_eq]
    exact .of_eq rfl rfl rfl
  have hdrains (s : State) : GroupsKept s (refuseAllDrains s) := by
    rw [refuseAllDrains, refuseDrain_answering.fold_eq]
    exact .of_eq rfl rfl rfl
  have hpass (s : State) : GroupsKept s (refuseAllPassHeads s) :=
    .foldl (fun s i => by unfold refusePassHead; split <;> exact .of_eq rfl rfl rfl) _ s
  have hwaiters (s : State) : GroupsKept s (refuseAllWaiters s) := .foldl kept_refuseWaiters _ s
  unfold enterUnavailable
  dsimp only
  exact (kept_setPower s _).trans
    ((hwaiters _).trans ((hreads _).trans ((hdrains _).trans ((hpass _).trans
      ((kept_endStalls _).trans (kept_settle _))))))

theorem kept_wakeTimeout (s : State) : GroupsKept s (wakeTimeout s) := by
  unfold wakeTimeout
  split
  · exact .of_eq rfl rfl rfl
  · exact kept_enterUnavailable s

theorem kept_boundaryWake (s : State) : GroupsKept s (boundaryWake s) := by
  unfold boundaryWake
  split
  · exact kept_takeWake s
  · exact .refl s

theorem ready_expiryRequest (g : GroupIx) (h : GroupsReady s) : GroupsReady (expiryRequest g s) := by
  unfold expiryRequest
  split
  · exact ready_releaseRequest g h
  · exact h

theorem ready_ageExpiry (g : GroupIx) (h : GroupsReady s) : GroupsReady (ageExpiry g s) := by
  unfold ageExpiry
  dsimp only
  split
  · next hg =>
    exact (kept_settle _).ready (ready_expiryRequest g (ready_setGroup h (fits_of_holding hg.1 ((h.fits g).holding hg.1))))
  · exact h

theorem ready_quietExpiry (g : GroupIx) (h : GroupsReady s) : GroupsReady (quietExpiry g s) := by
  unfold quietExpiry
  dsimp only
  split
  · next hg =>
    exact (kept_settle _).ready (ready_expiryRequest g (ready_setGroup h (fits_of_holding hg.1 ((h.fits g).holding hg.1))))
  · exact h

theorem ready_whileRunning {f : State → State} (h : GroupsReady s) (hf : GroupsReady s → GroupsReady (f s)) :
    GroupsReady (whileRunning f s) := by
  unfold whileRunning
  split
  · exact hf h
  · exact h

/-- R2, R88: with every group IDLE and at rest and every entry FREE the records fit. -/
theorem ready_of_idle (hg : ∀ g : GroupIx, s.groups[g].state = .idle ∧ quiet s.groups[g])
    (he : ∀ e : EntryIx, s.entries[e].state = .free) : GroupsReady s where
  fits := groupsSound_iff.1 (groupsSound_of_idle hg he)
  below e h := by
    rw [inStore, he e] at h
    rcases h with h | h <;> cases h

theorem ready_powerOnReset (s : State) : GroupsReady (powerOnReset s) :=
  ready_of_idle (s := powerOnReset s) (fun g => by
    show State.reset.groups[g].state = .idle ∧ quiet State.reset.groups[g]
    rw [groups_reset]
    exact ⟨rfl, quiet_powerOn⟩) free_reset

theorem ready_warmReset (s : State) : GroupsReady (warmReset s) :=
  ready_of_idle (fun g => by rw [groups_warmReset]; exact ⟨rfl, rfl, rfl, rfl, rfl, rfl⟩)
    fun e => by rw [entries_warmReset]; rfl

theorem kept_endReset (s : State) : GroupsKept s (endReset s) := by
  rcases endReset_cases s with h | ⟨-, h⟩ <;> rw [h]
  · exact .refl s
  · exact .of_eq rfl rfl rfl

end Power

/-! ## Management commands -/

section Manage

variable {s : State}

theorem ready_atEffectPoint (h : GroupsReady s) (b : Byte) (args : List Byte) (n : Nat) {judge : State → Answer}
    (hj : GroupsReady (judge s).after) : GroupsReady (atEffectPoint b args n judge s) := by
  unfold atEffectPoint answerState
  split
  · refine (kept_setFrame _ _).ready ?_
    split
    · exact hj
    · exact h
  · exact h

theorem ready_manage (h : GroupsReady s) (n : CommandName) (args : List Byte) {judge : State → Answer}
    (hj : GroupsReady (judge s).after) : GroupsReady (manage n args judge s) := ready_atEffectPoint h _ args _ hj

theorem ready_storeRegister (r : Register) (v : Nat) (h : GroupsReady s) : GroupsReady (storeRegister r v s) := by
  have hset {t : State} (k : GroupsKept s t) : GroupsReady t := k.ready h
  have hgroup (g : GroupIx) {x : Group} (hs : x.state = s.groups[g].state) (ha : x.ageTimer = s.groups[g].ageTimer)
      (hq : x.quietTimer = s.groups[g].quietTimer) (hw : x.writeCount = s.groups[g].writeCount)
      (he : x.episode = s.groups[g].episode) (hp : x.pendingRelease = s.groups[g].pendingRelease) :
      GroupsReady (setGroup g x s) := ready_setGroup h ((h.fits g).of_running hs ha hq hw he hp)
  have hdefer (x : Regs) : GroupsKept s (deferralTest (setRegs x s)) := by
    unfold deferralTest
    split
    · exact (kept_setRegs s x).trans (kept_takeWake _)
    · exact .of_eq rfl rfl rfl
  have hmark (x : Regs) : GroupsKept s (settle (setRegs x s)) :=
    (kept_setRegs s x).trans (kept_settle _)
  unfold storeRegister
  cases r
  case ageLimit g => exact hgroup g rfl rfl rfl rfl rfl rfl
  case relMode g => exact hgroup g rfl rfl rfl rfl rfl rfl
  case relValue g => exact hgroup g rfl rfl rfl rfl rfl rfl
  case lineLimit g => exact hgroup g rfl rfl rfl rfl rfl rfl
  case companions g => exact hgroup g rfl rfl rfl rfl rfl rfl
  case deferLimit => exact hset (hdefer _)
  case deferCount => exact hset (hdefer _)
  case highMark => exact hset (hmark _)
  case lowMark => exact hset (hmark _)
  case oppMark => exact hset (hmark _)
  case fullPolicy =>
    refine hset ?_
    unfold writeFullPolicy
    dsimp only
    split
    · exact (kept_setRegs s _).trans ((kept_endStalls _).trans (kept_settle _))
    · exact .of_eq rfl rfl rfl
  case windowPeriod =>
    refine hset ?_
    unfold writeWindowPeriod
    dsimp only
    split <;> exact .of_eq rfl rfl rfl
  all_goals exact hset (.of_eq rfl rfl rfl)

theorem ready_judgeWrite (r : Register) (v : BitVec 32) (h : GroupsReady s) : GroupsReady (judgeWrite r v s).after := by
  unfold judgeWrite
  split
  · exact h
  split
  · exact h
  split
  · exact h
  split
  · exact h
  · exact ready_storeRegister r _ h

theorem ready_closeGroup {g : GroupIx} (h : GroupsReady s) : GroupsReady (closeGroup g s) := by
  unfold closeGroup
  dsimp only
  rcases hm : newest s with _ | m
  · have hep : closeEpisode s = .noMark := by rw [closeEpisode, hm]
    rw [hep]
    have hempty (e : EntryIx) (he : inStore s.entries[e]) : False := by
      have hlt := h.below e he
      unfold newest at hm
      split at hm
      · next hc =>
        rw [beq_iff_eq.1 hc] at hlt
        simp at hlt
      · cases hm
    generalize hx : ({ s.groups[g] with
      state := .closing, ageTimer := none, quietTimer := none, episode := .noMark } : Group) = x
    have hclosing : x.state = .closing := by rw [← hx]
    have hnomark : x.episode = .noMark := by rw [← hx]
    have hrec : (setGroup g x s).groups[g] = x := (setGroup_group x s g g).trans (if_pos rfl)
    have hwake : requestWake [g] (setGroup g x s) = setGroup g x s := by
      have hcov : coveredHeld (setGroup g x s) g = false := by
        rw [← Bool.not_eq_true, coveredHeld_iff, hrec, hnomark]
        rintro ⟨m, hm, -⟩
        cases hm
      unfold requestWake
      simp only [List.filter, hcov]
      rfl
    have hends : episodeEnds (setGroup g x s) g = true := by
      rw [episodeEnds, episodeHolds, hrec, hnomark]
      rfl
    have hi := (setGroup_internal (s := s) (g := g) (x := x) (by rw [← hx])).trans (testEpisode_internal g _)
    rw [hwake]
    refine ready_of_internal h hi fun j => ?_
    rw [testEpisode_group]
    split
    · rw [testedGroup, if_pos hends, hrec, endedGroup_closing hclosing]
      exact ⟨fun _ => ⟨⟨rfl, rfl, rfl, rfl, rfl⟩, fun e he => (hempty e he).elim⟩, nofun, nofun, nofun⟩
    · next hj =>
      rw [setGroup_group, if_neg hj]
      exact h.fits j
  · have hep : closeEpisode s = .mark m := by rw [closeEpisode, hm]
    rw [hep]
    have hset := ready_setGroup h (g := g)
      (x := { s.groups[g] with state := .closing, ageTimer := none, quietTimer := none, episode := .mark m })
      ⟨fun hx => (by rcases hx with hx | hx <;> cases hx), nofun, fun _ => ⟨rfl, rfl⟩,
        fun _ => ⟨m, rfl, fun e he _ => newest_covers h.below hm he⟩⟩
    refine ready_testEpisode g (ready_requestWake hset fun j hj => ?_)
    rw [List.mem_singleton] at hj
    rw [hj, active_iff, setGroup_group, if_pos rfl]
    exact .inr rfl

theorem ready_retryFault {e : EntryIx} (h : GroupsReady s) (ha : active s s.entries[e].group = true)
    (hc : s.seqCounter ≠ topSeq) : GroupsReady (retryFault e s) := by
  unfold retryFault
  dsimp only
  refine (kept_settle _).ready ?_
  have hremoved := ready_removeRecordOf e h
  obtain ⟨_, _, hi⟩ := removeRecordOf_internal e s
  have hentry : (removeRecordOf e s).entries[e] = s.entries[e] := by rw [hi.entries]
  have hcounter : (removeRecordOf e s).seqCounter ≠ topSeq := by rw [hi.seqCounter]; exact hc
  have hstate (g : GroupIx) : (removeRecordOf e s).groups[g].state = s.groups[g].state := by
    obtain ⟨b, hb⟩ := removeRecordOf_group e s g
    rw [hb]
    rfl
  rw [← hentry] at ha ⊢
  generalize removeRecordOf e s = u at *
  have hactive : active (takeWake (reenter e u)) u.entries[e].group = true := by
    rw [active_iff, takeWake_group]
    show u.groups[u.entries[e].group].state = _ ∨ u.groups[u.entries[e].group].state = _
    rw [hstate]
    exact active_iff.1 ha
  unfold reportReentry
  split
  · have hnew : newest (takeWake (reenter e u)) = some u.seqCounter := by
      unfold newest
      rw [takeWake_seqCounter]
      exact newest_reenter hcounter
    exact ready_request hnew hactive ((kept_takeWake _).requesting (requesting_reenter hremoved hcounter))
  · next hn =>
    refine ready_heldRose _ ((kept_takeWake _).ready (ready_reenter_holding hremoved hcounter ?_))
    have hs := (active_iff.1 hactive).resolve_right hn
    rwa [takeWake_group] at hs

theorem ready_discardFault (e : EntryIx) (h : GroupsReady s) : GroupsReady (discardFault e s) :=
  ((kept_discard e _).trans ((kept_endStalls _).trans (kept_settle _))).ready
    (ready_removeRecordOf e h)

theorem ready_clearPart (h : GroupsReady s) (hc : clearAllowed s = true) : GroupsReady (clearPart s) := by
  obtain ⟨-, he, -⟩ := clearAllowed_iff.1 hc
  have hcleared : GroupsReady (makeStagedCurrent (freeQuarantined (clearHistory s))) :=
    ⟨h.fits, fun e hin => by
      have hs : inStore s.entries[e] := hin
      rw [inStore, he e] at hs
      rcases hs with hs | hs <;> cases hs⟩
  exact ((kept_endStalls _).trans (kept_settle _)).ready hcleared

theorem ready_groupReset {g : GroupIx} (h : GroupsReady s) (hg : s.groups[g].state = .closed) :
    GroupsReady (setGroup g (resetGroup s.groups[g]) s) := by
  obtain ⟨⟨ha, hq, hw, he, -⟩, hn⟩ := (h.fits g).resting (.inr hg)
  exact ready_setGroup h ⟨fun _ => ⟨⟨ha, hq, hw, he, rfl⟩, hn⟩, nofun, nofun, nofun⟩

end Manage

/-! ## Every command -/

section Every

variable {s t : State}

theorem ready_kept (h : GroupsReady s) (k : GroupsKept s t) : GroupsReady t := k.ready h

theorem exec_groupsReady {c : Instr} (h : GroupsReady s) (hx : exec c s = .next t) : GroupsReady t := by
  have hrun {f : State → State} (hf : GroupsReady (f s)) : GroupsReady (whileRunning f s) :=
    ready_whileRunning h fun _ => hf
  have hrunKept {f : State → State} (k : GroupsKept s (f s)) : GroupsReady (whileRunning f s) := hrun (k.ready h)
  have hsame {n : CommandName} {args : List Byte} {judge : State → Answer} (hj : (judge s).after = s) :
      GroupsReady (manage n args judge s) := ready_manage h n args (by rw [hj]; exact h)
  have hwrite (r : Register) (v : BitVec 32) : GroupsReady (writeRegister r v s) :=
    ready_manage h _ _ (ready_judgeWrite r v h)
  cases c <;> cases hx
  case upstreamRequest r =>
    refine hrunKept ?_
    unfold upstreamArrival
    split
    · unfold arrive
      dsimp only
      split
      · exact .of_eq rfl rfl rfl
      split <;> exact .of_eq rfl rfl rfl
    · exact .of_eq rfl rfl rfl
  case writeDecision i => exact hrun (ready_decision h fun r => ready_decideWrite i r h)
  case readDecision i => exact hrun (ready_decision h fun r => (kept_decideRead i r s).ready h)
  case drainDecision i => exact hrun (ready_decision h fun r => ready_decideDrain i r h)
  case deferLimitReached =>
    refine hrunKept ?_
    split
    · exact kept_takeWake s
    · exact .refl s
  case grant => exact hrunKept (kept_arbiterGrant s)
  case completeOk k bs => exact hrun (ready_complete .ok k bs h)
  case completePoison k bs => exact hrun (ready_complete .poison k bs h)
  case completeFail k bs => exact hrun (ready_complete .fail k bs h)
  case undefinedDownstreamMessage k =>
    refine hrunKept ?_
    split
    · exact .of_eq rfl rfl rfl
    · exact .refl s
  case slotTimeout k => exact hrun (ready_timeoutSlot k h)
  case sleepCountdownExpiry =>
    refine hrunKept ?_
    split
    · exact .of_eq rfl rfl rfl
    · exact .refl s
  case sleepAccept =>
    refine hrunKept ?_
    unfold takeSleepAccept
    split
    · exact kept_goAsleep s
    · exact .of_eq rfl rfl rfl
  case sleepDecline =>
    refine hrun ?_
    unfold takeSleepDecline
    split
    · exact ready_enterAwake ((kept_setPower s _).ready h)
    · exact (kept_raise s _).ready h
  case wakeReady =>
    refine hrun ?_
    unfold takeWakeReady
    split
    · exact ready_enterAwake (((kept_setPower s _).trans (kept_countWake _)).ready h)
    · exact (kept_raise s _).ready h
  case wakeTimerExpiry =>
    refine hrunKept ?_
    split
    · exact kept_wakeTimeout s
    · exact .refl s
  case windowBoundary =>
    refine hrunKept ?_
    split
    · exact (kept_boundaryWake s).trans (.of_eq rfl rfl rfl)
    · exact .refl s
  case ageTimerExpiry g => exact hrun (ready_ageExpiry g h)
  case quietTimerExpiry g => exact hrun (ready_quietExpiry g h)
  case tick => exact hrunKept (.of_eq rfl rfl rfl)
  case oppChange level =>
    refine hrunKept ?_
    split
    · exact .refl s
    · exact (GroupsKept.of_eq (s := s) (t := { s with opp := level }) rfl rfl rfl).trans (kept_settle _)
  case powerOnReset => exact ready_powerOnReset s
  case warmReset => exact hrun (ready_warmReset s)
  case resetEnd => exact (kept_endReset s).ready h
  case frameStart =>
    refine (GroupsKept.ready ?_ h)
    unfold chipSelectFalls
    split <;> exact .of_eq rfl rfl rfl
  case frameEnd => exact (GroupsKept.of_eq (s := s) (t := chipSelectRises s) rfl rfl rfl).ready h
  case unknownCommand b =>
    split
    · exact ready_atEffectPoint h _ _ _ h
    · exact h
  case readReg n => exact hsame (judgeReadReg_after n s)
  case regionRead k => exact hsame (judgeRegionRead_after k s)
  case faultRead k => exact hsame (judgeFaultRead_after k s)
  case entryPeek k => exact hsame (judgeEntryPeek_after k s)
  case status => exact hsame rfl
  case writeReg n v =>
    refine ready_manage h _ _ ?_
    unfold judgeWriteReg
    split
    · exact ready_judgeWrite _ v h
    · exact h
  case take => exact ready_manage h _ _ (ready_kept h (.of_eq rfl rfl rfl))
  case ack v =>
    refine ready_manage h _ _ ?_
    unfold judgeAck
    split
    · exact h
    · exact ready_kept h (.of_eq rfl rfl rfl)
  case clearCounters => exact ready_manage h _ _ (ready_kept h (.of_eq rfl rfl rfl))
  case regionWrite k x =>
    refine ready_manage h _ _ ?_
    unfold judgeRegionWrite
    split
    · split
      · exact h
      · exact ready_kept h (.of_eq rfl rfl rfl)
    · exact h
  case groupOpen n =>
    refine ready_manage h _ _ ?_
    unfold judgeGroupOpen
    split
    · exact h
    split
    · exact h
    · exact ready_setGroup h (fits_of_holding rfl nofun)
  case groupClose n =>
    refine ready_manage h _ _ ?_
    unfold judgeGroupClose
    split
    · exact h
    split
    · exact ready_kept (ready_closeGroup h) (kept_settle _)
    · exact h
  case groupReset n =>
    refine ready_manage h _ _ ?_
    unfold judgeGroupReset
    split
    · exact h
    split
    · next hg =>
      simp only [Bool.and_eq_true, decide_eq_true_eq] at hg
      exact ready_groupReset h hg.1
    · exact h
  case release n =>
    refine ready_manage h _ _ ?_
    unfold judgeRelease
    split
    · exact h
    · refine ready_kept (ready_foldl (fun s g hs => ?_) _ h) (kept_settle _)
      unfold namedRequest
      split
      · exact ready_releaseRequest g hs
      · exact hs
  case wake =>
    refine ready_manage h _ _ ?_
    unfold judgeWake
    split
    · exact h
    · show GroupsReady (softwareWake s)
      unfold softwareWake
      split
      · exact ready_kept h (.of_eq rfl rfl rfl)
      · exact ready_kept h (kept_takeWake s)
  case cycle =>
    refine ready_manage h _ _ ?_
    unfold judgeCycle
    split
    · exact ready_kept h (.of_eq rfl rfl rfl)
    · exact h
  case recover =>
    refine ready_manage h _ _ ?_
    unfold judgeRecover
    split
    · exact ready_kept h (.of_eq rfl rfl rfl)
    · exact h
  case faultRetry n =>
    refine ready_manage h _ _ ?_
    unfold judgeFaultRetry
    split
    · exact h
    split
    · exact h
    split
    · exact h
    split
    · exact h
    · next e _ _ ha hc => exact ready_retryFault h (by simpa using ha) (by simpa using hc)
  case faultDiscard n =>
    refine ready_manage h _ _ ?_
    unfold judgeFaultDiscard
    split
    · exact h
    split
    · exact ready_discardFault _ h
    · exact h
  case clear =>
    refine ready_manage h _ _ ?_
    unfold judgeClear
    split
    · next hc => exact ready_clearPart h hc
    · exact h
  all_goals exact hwrite _ _

end Every

end Sys2Proof.Proofs

namespace Sys2Proof.Settled

open Sys2Proof Sys2Proof.Machine Sys2Proof.Proofs

/-- Settles O9: the invariant group by group (`GroupFits`), kept by each operation of the group unit and so by every
command. -/
theorem everyStepKeepsTheGroups : Obligations.EveryStepKeepsTheGroups := by
  intro s t hs hg h
  refine (step_keeps (P := GroupsReady) (fun q l f s hs => ?_) (fun c s t => exec_groupsReady)
      (groupsReady_of hs hg) h).sound
  exact (GroupsKept.of_eq (s := s) (t := reframed q l f s) rfl rfl rfl).ready hs

end Sys2Proof.Settled

/-! PROOFS. O13: between two steps the tests are up to date. A command ends with the tests (`settle_testsTaken`), or
changes nothing that they read (`SameTests`). -/

namespace Sys2Proof.Proofs

open Sys2Proof Sys2Proof.Machine

/-! ## Changes that no test sees -/

section Same

variable {s t u : State}

/-- The tests read the same in t as in s (R60, R120, R139). -/
structure SameTests (s t : State) : Prop where
  pressure : t.pressure = s.pressure
  start : pressureStart t = pressureStart s
  stop : pressureEnd t = pressureEnd s
  initiators : t.initiators = s.initiators
  waits : ∀ r c, waitOver t r c = waitOver s r c
  countdown : t.power.sleepCountdown.isSome = s.power.sleepCountdown.isSome
  runs : countdownRuns t = countdownRuns s

theorem SameTests.keeps (k : SameTests s t) (h : TestsTaken s) : TestsTaken t where
  starts ht := by
    rw [k.start] at ht
    rw [k.pressure]
    exact h.starts ht
  ends ht := by
    rw [k.stop] at ht
    rw [k.pressure]
    exact h.ends ht
  waits i r rest c hq hh := by
    rw [k.initiators] at hq hh
    rw [k.waits]
    exact h.waits i r rest c hq hh
  countdown := by rw [k.countdown, k.runs, h.countdown]

/-- What no test reads: the queue, the pins, the links, the region table, the age list, time, the fault records, the
attention and counters, most registers and most of the power record. -/
theorem testsTaken_unread (s : State) {pending resetPin upstreamOut regions ageList seqCounter timestamp divider releaseRetries
    respLimitSeen downstreamOut faults events counters resetRecord chipSelectLow serialIn frame tickDiv fullPolicy deferLimit
    deferCount rdRetry wrRetry creditLimit respLimit wakeLimit attnEnable attempt wakeTimer notedWake cycleOwed staged current
    windowCountdown} (h : TestsTaken s) :
    TestsTaken
      { s with
        pending := pending, resetPin := resetPin, upstreamOut := upstreamOut, regions := regions, ageList := ageList
        seqCounter := seqCounter, timestamp := timestamp, divider := divider, releaseRetries := releaseRetries
        respLimitSeen := respLimitSeen, downstreamOut := downstreamOut, faults := faults, events := events
        counters := counters, resetRecord := resetRecord, chipSelectLow := chipSelectLow, serialIn := serialIn
        frame := frame
        regs :=
          { s.regs with
            tickDiv := tickDiv, fullPolicy := fullPolicy, deferLimit := deferLimit, deferCount := deferCount
            rdRetry := rdRetry, wrRetry := wrRetry, creditLimit := creditLimit, respLimit := respLimit
            wakeLimit := wakeLimit, attnEnable := attnEnable }
        power :=
          { s.power with
            attempt := attempt, wakeTimer := wakeTimer, notedWake := notedWake, cycleOwed := cycleOwed
            staged := staged, current := current, windowCountdown := windowCountdown } } :=
  ⟨h.starts, h.ends, h.waits, h.countdown⟩

theorem SameTests.refl (s : State) : SameTests s s := ⟨rfl, rfl, rfl, rfl, fun _ _ => rfl, rfl, rfl⟩

theorem countdownRuns_of_not_awake (h : s.power.state ≠ .awake) : countdownRuns s = false := by
  simp [countdownRuns, h]

/-- Between two power states other than AWAKE no test sees a change of the power record. -/
theorem SameTests.of_power {p : Power} {d : List DownMessage} (hs : s.power.state ≠ .awake) (hp : p.state ≠ .awake)
    (hc : p.sleepCountdown = s.power.sleepCountdown) : SameTests s { s with power := p, downstreamOut := d } where
  pressure := rfl
  start := rfl
  stop := rfl
  initiators := rfl
  waits _ _ := rfl
  countdown := congrArg Option.isSome hc
  runs := by
    rw [countdownRuns_of_not_awake hs]
    exact countdownRuns_of_not_awake hp

/-- R145: no test sees a wake cause. -/
theorem sameTests_takeWake (s : State) : SameTests s (takeWake s) := by
  by_cases ha : s.power.state = .awake
  · rw [takeWake_of_ignored (by simp [ha]) (by simp [ha])]
    exact .refl s
  · rw [takeWake_eq]
    exact .of_power ha (fun h => ha ((wokenPower_awake s).1 h)) (wokenPower_sleepCountdown s)

/-- R146: a wake attempt outside AWAKE is no test's either. -/
theorem sameTests_wakeAttempt (n : Nat) (h : s.power.state ≠ .awake) : SameTests s (wakeAttempt n s) :=
  .of_power (p := { s.power with state := .waking, attempt := n, wakeTimer := some s.regs.wakeLimit.toNat }) h nofun rfl

/-- A group's record may change in its configuration, its timers, and, where it holds nothing, in its episode. -/
theorem due_setGroup {g : GroupIx} {x : Group}
    (h : x.episode = s.groups[g].episode ∨ ∀ e : EntryIx, s.entries[e].state = .held → s.entries[e].group ≠ g) :
    due (setGroup g x s) = due s := by
  funext e
  show (s.entries[e].state == .held && (s.entries[e].expedite ||
    episodeCovers (setGroup g x s).groups[s.entries[e].group].episode s.entries[e].seq || s.pressure)) = due s e
  rw [setGroup_group]
  unfold due
  dsimp only
  by_cases hg : s.entries[e].group = g
  · rw [if_pos hg]
    rcases h with h | h
    · rw [h, ← hg]
    · have hs : (s.entries[e].state == .held) = false := beq_eq_false_iff_ne.2 fun hs => h e hs hg
      rw [hs]
      rfl
  · rw [if_neg hg]

theorem sameTests_setGroup {g : GroupIx} {x : Group}
    (h : x.episode = s.groups[g].episode ∨ ∀ e : EntryIx, s.entries[e].state = .held → s.entries[e].group ≠ g) :
    SameTests s (setGroup g x s) where
  pressure := rfl
  start := rfl
  stop := rfl
  initiators := rfl
  waits _ _ := rfl
  countdown := rfl
  runs := by
    unfold countdownRuns idleCondition anyDueCounted
    rw [due_setGroup h]
    rfl

end Same

/-! ## Arrival (R191) -/

section Arrival

variable {s : State}

/-- A request that joins a queue's tail. -/
def joined (r : Request) (q : Initiator) : Initiator :=
  { q with queue := q.queue ++ [r], tags := q.tags ||| (1#16 <<< r.tag.toNat), credits := q.credits - 1 }

theorem joined_isPass {q : Initiator} (h : q.queue = [] → q.head = .undecided) (r : Request) (l : LineAddr) :
    headIsPass l (joined r q) = headIsPass l q := by
  unfold headIsPass joined
  rcases hq : q.queue with _ | ⟨x, xs⟩
  · rw [h hq]
  · cases q.head <;> rfl

theorem enqueue_initiator (i j : InitIx) (r : Request) (s : State) :
    (enqueue i r s).initiators[j] = if j = i then joined r s.initiators[j] else s.initiators[j] := by
  show (s.initiators.set i (joined r s.initiators[i]))[j] = _
  rw [getElem_set_fin]
  split
  · next h => rw [h]
  · rfl

/-- What is asked of every queue record is the same after an arrival, where the record that it joins answers the same. -/
theorem enqueue_any {p : Initiator → Bool} (i : InitIx) (r : Request)
    (h : p (joined r s.initiators[i]) = p s.initiators[i]) :
    (enqueue i r s).initiators.any p = s.initiators.any p := by
  rw [Bool.eq_iff_iff, any_fin_iff, any_fin_iff]
  refine exists_congr fun j => ?_
  rw [enqueue_initiator]
  split
  · next hj => rw [hj, h]
  · rfl

theorem testsTaken_enqueue (hb : Bounded s) (h : TestsTaken s) (i : InitIx) (r : Request) :
    TestsTaken (enqueue i r s) := by
  have hstall : stallWaiting (enqueue i r s) = stallWaiting s := enqueue_any i r rfl
  have hpasses : (enqueue i r s).initiators.any headPasses = s.initiators.any headPasses := enqueue_any i r rfl
  have hstart : pressureStart (enqueue i r s) = pressureStart s := by
    unfold pressureStart
    rw [hstall]
    rfl
  refine ⟨fun ht => ?_, fun ht => ?_, fun j x rest c hq hh => ?_, ?_⟩
  · rw [hstart] at ht
    exact h.starts ht
  · refine h.ends ?_
    rw [pressureEnd, hstall, hstart] at ht
    exact ht
  · have hover : waitOver (enqueue i r s) x c = waitOver s x c :=
      waitOver_congr (s := s) (t := enqueue i r s) x rfl rfl
        (fun l => lineHasPass_congr l (enqueue_any i r (joined_isPass (hb.heads i) r l)) rfl rfl) rfl c
    rw [hover]
    rw [enqueue_initiator] at hq hh
    split at hq
    · next hj =>
      rw [if_pos hj] at hh
      rcases hqueue : s.initiators[j].queue with _ | ⟨y, ys⟩
      · have hhead : s.initiators[j].head = .waiting c := hh
        rw [hb.heads j hqueue] at hhead
        cases hhead
      · have hcons : s.initiators[j].queue ++ [r] = x :: rest := hq
        rw [hqueue] at hcons
        cases hcons
        exact h.waits j _ ys c hqueue hh
    · next hj =>
      rw [if_neg hj] at hh
      exact h.waits j x rest c hq hh
  · show s.power.sleepCountdown.isSome = _
    rw [h.countdown]
    unfold countdownRuns idleCondition
    rw [hpasses, hstall]
    rfl

theorem testsTaken_arrival (hb : Bounded s) (h : TestsTaken s) (r : Request) : TestsTaken (upstreamArrival r s) := by
  unfold upstreamArrival
  split
  · next i _ =>
    unfold arrive
    dsimp only
    split
    · exact testsTaken_unread s h
    split
    · exact testsTaken_unread s h
    · exact testsTaken_enqueue hb h i r
  · exact testsTaken_unread s h

end Arrival

/-! ## The pin resets -/

section Resets

variable {s : State}

/-- R24, R84: after a reset nothing is held, waits or is active, so every test stands as taken. -/
theorem testsTaken_of_rest (hmark : 1 ≤ s.regs.highMark.toNat) (hopp : s.opp = false) (hheld : s.counts.held = 0)
    (hi : ∀ i : InitIx, s.initiators[i] = .empty) (hp : s.pressure = false) (hpower : s.power.state ≠ .awake)
    (hc : s.power.sleepCountdown = none) : TestsTaken s := by
  have hstall : stallWaiting s = false := stallWaiting_false_iff.2 fun i => by rw [hi]; exact nofun
  have hstart : pressureStart s = false := by
    unfold pressureStart
    rw [hstall, hopp, hheld, decide_eq_false (by omega)]
    rfl
  refine ⟨fun h => ?_, fun _ => hp, fun i r rest c hq => ?_, ?_⟩
  · rw [hstart] at h
    cases h
  · rw [hi] at hq
    cases hq
  · rw [hc, countdownRuns_of_not_awake hpower]
    rfl

theorem testsTaken_powerOnReset (s : State) : TestsTaken (powerOnReset s) :=
  testsTaken_of_rest (show 1 ≤ Regs.powerOn.highMark.toNat by decide) rfl rfl initiators_reset rfl nofun rfl

theorem testsTaken_warmReset (hr : RegistersSound s) : TestsTaken (warmReset s) :=
  testsTaken_of_rest hr.highMark.1 rfl rfl initiators_reset rfl nofun rfl

theorem testsTaken_endReset (hp : PowerSound s) (h : TestsTaken s) : TestsTaken (endReset s) := by
  unfold endReset
  split
  · exact h
  · next hn =>
    obtain ⟨hw, -, -, -⟩ := hp.resetting fun h => hn (running_of_released h)
    have ha : ({ s with resetPin := .released } : State).power.state ≠ .awake := by simp [hw]
    exact (sameTests_wakeAttempt 1 ha).keeps (testsTaken_unread s h)

end Resets

/-! ## The commands -/

section Commands

variable {s t : State}

theorem testsTaken_whileRunning {f : State → State} (h : TestsTaken s) (hf : TestsTaken (f s)) :
    TestsTaken (whileRunning f s) := by
  unfold whileRunning
  split
  · exact hf
  · exact h

theorem testsTaken_atEffectPoint {judge : State → Answer} (h : TestsTaken s) (b : Byte) (args : List Byte) (n : Nat)
    (hj : TestsTaken (judge s).after) : TestsTaken (atEffectPoint b args n judge s) := by
  unfold atEffectPoint answerState
  split
  · split
    · exact testsTaken_unread _ hj
    · exact testsTaken_unread s h
  · exact h

theorem testsTaken_decision {i : InitIx} {kind : Request → Bool} {d : Request → State → State} (h : TestsTaken s) :
    TestsTaken (decision i kind d s) := by
  unfold decision
  split
  · exact settle_testsTaken _
  · exact h

theorem testsTaken_complete (kind : CompletionKind) (k : TagIx) (bs : List Byte) (h : TestsTaken s) :
    TestsTaken (complete kind k bs s) := by
  unfold complete
  split
  · exact settle_testsTaken _
  · exact settle_testsTaken _
  · exact testsTaken_unread s h

theorem testsTaken_arbiterGrant (h : TestsTaken s) : TestsTaken (arbiterGrant s) := by
  unfold arbiterGrant
  split
  · split
    · exact settle_testsTaken _
    · exact h
  · exact h

theorem testsTaken_timeoutSlot (k : TagIx) (h : TestsTaken s) : TestsTaken (timeoutSlot k s) := by
  unfold timeoutSlot
  split
  · split
    · exact settle_testsTaken _
    · exact h
  all_goals exact h

/-- R141, R157: SLEEP_REQUEST leaves AWAKE, and the sleep countdown stops. -/
theorem testsTaken_requestSleep (owed : Bool) (h : TestsTaken s) : TestsTaken (requestSleep owed s) :=
  ⟨h.starts, h.ends, h.waits, (countdownRuns_of_not_awake (s := requestSleep owed s) nofun).symm⟩

/-- R129: a line's outstanding writes are in BUSY slots. -/
theorem lineHasPass_unquarantine (s : State) (l : LineAddr) : lineHasPass (freeQuarantined s) l = lineHasPass s l := by
  refine lineHasPass_congr l rfl ?_ rfl
  have hx (x : Slot) : slotCarriesPass l (unquarantine x) = slotCarriesPass l x := by cases x <;> rfl
  rw [Bool.eq_iff_iff, any_fin_iff, any_fin_iff]
  refine exists_congr fun k => ?_
  rw [show (freeQuarantined s).slots[k] = unquarantine s.slots[k] from getElem_map_fin ..]
  rw [hx]

/-- R129: outside AWAKE no test sees that the QUARANTINED slots go FREE. -/
theorem sameTests_freeQuarantined (ha : s.power.state ≠ .awake) : SameTests s (freeQuarantined s) where
  pressure := rfl
  start := rfl
  stop := rfl
  initiators := rfl
  countdown := rfl
  waits r c := waitOver_congr (s := s) (t := freeQuarantined s) r rfl rfl (lineHasPass_unquarantine s) rfl c
  runs := by
    rw [countdownRuns_of_not_awake ha]
    exact countdownRuns_of_not_awake ha

/-- R142: the power record after SLEEP_ACCEPT, before a wake that is wanted. -/
def sleptPower (s : State) : Power := { s.power with state := .asleep, notedWake := false, cycleOwed := false }

/-- R142: SLEEP_ACCEPT comes in ENTERING and leaves in another state than AWAKE. -/
theorem testsTaken_goAsleep (h : TestsTaken s) (he : s.power.state = .entering) : TestsTaken (goAsleep s) := by
  have ha : s.power.state ≠ .awake := by simp [he]
  have hfreed : TestsTaken (countSleep (freeQuarantined s)) :=
    testsTaken_unread _ ((sameTests_freeQuarantined ha).keeps h)
  have hslept : TestsTaken (setPower (sleptPower s) (countSleep (freeQuarantined s))) :=
    (SameTests.of_power (s := countSleep (freeQuarantined s)) (p := sleptPower s) (d := s.downstreamOut) ha nofun
      rfl).keeps hfreed
  have hgo : goAsleep s = if wakeWanted (countSleep (freeQuarantined (setPower { s.power with state := .asleep } s)))
      then wakeAttempt 1 (setPower (sleptPower s) (countSleep (freeQuarantined s)))
      else setPower (sleptPower s) (countSleep (freeQuarantined s)) := rfl
  have hn : (setPower (sleptPower s) (countSleep (freeQuarantined s))).power.state ≠ .awake := nofun
  rw [hgo]
  split
  · exact (sameTests_wakeAttempt 1 hn).keeps hslept
  · exact hslept

theorem testsTaken_wakeTimeout (h : TestsTaken s) (hw : s.power.state = .waking) : TestsTaken (wakeTimeout s) := by
  unfold wakeTimeout
  split
  · have ha : (raise .wakeRetry s).power.state ≠ .awake := by simp [raise, hw]
    exact (sameTests_wakeAttempt _ ha).keeps (testsTaken_unread s h)
  · exact settle_testsTaken _

theorem testsTaken_makeStagedCurrent (h : TestsTaken s) : TestsTaken (makeStagedCurrent s) := testsTaken_unread s h

theorem testsTaken_windowBoundary (h : TestsTaken s) : TestsTaken (makeStagedCurrent (boundaryWake s)) := by
  refine testsTaken_makeStagedCurrent ?_
  unfold boundaryWake
  split
  · exact (sameTests_takeWake s).keeps h
  · exact h

/-- R136: a countdown that runs goes on running at a tick. -/
theorem sameTests_tickOnce (s : State) : SameTests s (tickOnce s) where
  pressure := rfl
  start := rfl
  stop := rfl
  initiators := rfl
  waits _ _ := rfl
  countdown := Option.isSome_map
  runs := rfl

/-- R156: nor a countdown that restarts. -/
theorem sameTests_restartCountdown (s : State) : SameTests s (restartCountdown s) where
  pressure := rfl
  start := rfl
  stop := rfl
  initiators := rfl
  waits _ _ := rfl
  countdown := Option.isSome_map
  runs := rfl

theorem testsTaken_ageExpiry (g : GroupIx) (h : TestsTaken s) : TestsTaken (ageExpiry g s) := by
  unfold ageExpiry
  dsimp only
  split
  · exact settle_testsTaken _
  · exact h

theorem testsTaken_quietExpiry (g : GroupIx) (h : TestsTaken s) : TestsTaken (quietExpiry g s) := by
  unfold quietExpiry
  dsimp only
  split
  · exact settle_testsTaken _
  · exact h

theorem testsTaken_chipSelectFalls (h : TestsTaken s) : TestsTaken (chipSelectFalls s) := by
  unfold chipSelectFalls
  split
  · exact h
  · exact testsTaken_unread s h

/-! ## The register writes (9.6) -/

theorem testsTaken_deferralTest (h : TestsTaken s) : TestsTaken (deferralTest s) := by
  unfold deferralTest
  split
  · exact (sameTests_takeWake s).keeps h
  · exact h

/-- R139: the idle test sets the countdown as its conditions stand. -/
theorem idleTest_countdown (s : State) : (idleTest s).power.sleepCountdown.isSome = countdownRuns (idleTest s) := by
  unfold idleTest
  dsimp only
  rw [countdownRuns_setCountdown]
  show Option.isSome (if _ then _ else _) = _
  split <;> simp_all

/-- R139: of the tests SLEEP_DELAY is read by the idle test alone. -/
theorem testsTaken_setSleepDelay {p : Power} {d : BitVec 16} (h : TestsTaken s)
    (hc : p.sleepCountdown.isSome =
      countdownRuns { s with regs := { s.regs with sleepDelay := d }, power := p }) :
    TestsTaken { s with regs := { s.regs with sleepDelay := d }, power := p } :=
  ⟨h.starts, h.ends, h.waits, hc⟩

theorem testsTaken_writeSleepDelay (v : Nat) (h : TestsTaken s) : TestsTaken (writeSleepDelay v s) :=
  testsTaken_setSleepDelay (s := s) (d := BitVec.ofNat 16 v) h (idleTest_countdown _)

theorem testsTaken_writeFullPolicy (v : Nat) (h : TestsTaken s) : TestsTaken (writeFullPolicy v s) := by
  unfold writeFullPolicy
  dsimp only
  split
  · exact settle_testsTaken _
  · exact testsTaken_unread s h

theorem testsTaken_writeWindowPeriod (v : Nat) (h : TestsTaken s) : TestsTaken (writeWindowPeriod v s) := by
  unfold writeWindowPeriod
  dsimp only
  split
  · exact testsTaken_makeStagedCurrent (testsTaken_unread s h)
  · exact testsTaken_unread s h

theorem testsTaken_setGroup {g : GroupIx} {x : Group} (hx : x.episode = s.groups[g].episode) (h : TestsTaken s) :
    TestsTaken (setGroup g x s) := (sameTests_setGroup (.inl hx)).keeps h

theorem testsTaken_storeRegister (r : Register) (v : Nat) (h : TestsTaken s) : TestsTaken (storeRegister r v s) := by
  cases r
  case tickDiv | rdRetry | wrRetry | creditLimit | respLimit | wakeLimit | attnEnable => exact testsTaken_unread s h
  case fullPolicy => exact testsTaken_writeFullPolicy v h
  case deferLimit | deferCount => exact testsTaken_deferralTest (testsTaken_unread s h)
  case highMark | lowMark | oppMark => exact settle_testsTaken _
  case sleepDelay => exact testsTaken_writeSleepDelay v h
  case windowPeriod => exact testsTaken_writeWindowPeriod v h
  case ageLimit | relMode | relValue | lineLimit | companions => exact testsTaken_setGroup (by rfl) h
  all_goals exact h

theorem testsTaken_judgeWrite (r : Register) (v : BitVec 32) (h : TestsTaken s) :
    TestsTaken (judgeWrite r v s).after := by
  unfold judgeWrite
  split
  · exact h
  split
  · exact h
  split
  · exact h
  split
  · exact h
  · exact testsTaken_storeRegister r _ h

/-! ## Every command keeps the tests taken -/

/-- R88, R90: what TestsTaken is kept with: the registers and the power record give what stands after a reset, the queues'
bounds that a head status needs a head, and the group records that an inactive group holds nothing. -/
theorem exec_testsTaken {c : Instr} (hp : PowerSound s) (hr : RegistersSound s) (hb : Bounded s) (hg : GroupsSound s)
    (h : TestsTaken s) (hx : exec c s = .next t) : TestsTaken t := by
  have hrun {f : State → State} (hf : TestsTaken (f s)) : TestsTaken (whileRunning f s) := testsTaken_whileRunning h hf
  have hmanage {n : CommandName} {args : List Byte} {judge : State → Answer} (hj : TestsTaken (judge s).after) :
      TestsTaken (manage n args judge s) := testsTaken_atEffectPoint h _ _ _ hj
  have hsame {n : CommandName} {args : List Byte} {judge : State → Answer} (hj : (judge s).after = s) :
      TestsTaken (manage n args judge s) := hmanage (by rw [hj]; exact h)
  have hwrite (r : Register) (v : BitVec 32) : TestsTaken (writeRegister r v s) := hmanage (testsTaken_judgeWrite r v h)
  cases c <;> cases hx
  case upstreamRequest r => exact hrun (testsTaken_arrival hb h r)
  case writeDecision i => exact hrun (testsTaken_decision h)
  case readDecision i => exact hrun (testsTaken_decision h)
  case drainDecision i => exact hrun (testsTaken_decision h)
  case deferLimitReached =>
    refine hrun ?_
    split
    · exact (sameTests_takeWake s).keeps h
    · exact h
  case grant => exact hrun (testsTaken_arbiterGrant h)
  case completeOk k bs => exact hrun (testsTaken_complete .ok k bs h)
  case completePoison k bs => exact hrun (testsTaken_complete .poison k bs h)
  case completeFail k bs => exact hrun (testsTaken_complete .fail k bs h)
  case undefinedDownstreamMessage k =>
    refine hrun ?_
    split
    · exact testsTaken_unread s h
    · exact h
  case slotTimeout k => exact hrun (testsTaken_timeoutSlot k h)
  case sleepCountdownExpiry =>
    refine hrun ?_
    split
    · exact testsTaken_requestSleep _ h
    · exact h
  case sleepAccept =>
    refine hrun ?_
    unfold takeSleepAccept
    split
    · next he => exact testsTaken_goAsleep h he
    · exact testsTaken_unread s h
  case sleepDecline =>
    refine hrun ?_
    unfold takeSleepDecline
    split
    · exact settle_testsTaken _
    · exact testsTaken_unread s h
  case wakeReady =>
    refine hrun ?_
    unfold takeWakeReady
    split
    · exact settle_testsTaken _
    · exact testsTaken_unread s h
  case wakeTimerExpiry =>
    refine hrun ?_
    split
    · next hd =>
      simp only [wakeTimerDue, Bool.and_eq_true, beq_iff_eq] at hd
      exact testsTaken_wakeTimeout h hd.1
    · exact h
  case windowBoundary =>
    refine hrun ?_
    split
    · exact testsTaken_windowBoundary h
    · exact h
  case ageTimerExpiry g => exact hrun (testsTaken_ageExpiry g h)
  case quietTimerExpiry g => exact hrun (testsTaken_quietExpiry g h)
  case tick => exact hrun ((sameTests_tickOnce s).keeps h)
  case oppChange level =>
    refine hrun ?_
    split
    · exact h
    · exact settle_testsTaken _
  case powerOnReset => exact testsTaken_powerOnReset s
  case warmReset => exact hrun (testsTaken_warmReset hr)
  case resetEnd => exact testsTaken_endReset hp h
  case frameStart => exact testsTaken_chipSelectFalls h
  case frameEnd => exact testsTaken_unread s h
  case unknownCommand b =>
    split
    · exact testsTaken_atEffectPoint h _ _ _ h
    · exact h
  case readReg n => exact hsame (judgeReadReg_after n s)
  case regionRead k => exact hsame (judgeRegionRead_after k s)
  case faultRead k => exact hsame (judgeFaultRead_after k s)
  case entryPeek k => exact hsame (judgeEntryPeek_after k s)
  case status => exact hsame rfl
  case writeReg n v =>
    refine hmanage ?_
    unfold judgeWriteReg
    split
    · exact testsTaken_judgeWrite _ v h
    · exact h
  case take => exact hmanage (testsTaken_unread s h)
  case ack v =>
    refine hmanage ?_
    unfold judgeAck
    split
    · exact h
    · exact testsTaken_unread s h
  case clearCounters => exact hmanage (testsTaken_unread s h)
  case regionWrite k x =>
    refine hmanage ?_
    unfold judgeRegionWrite
    split
    · split
      · exact h
      · exact testsTaken_unread s h
    · exact h
  case groupOpen n =>
    refine hmanage ?_
    unfold judgeGroupOpen
    split
    · exact h
    split
    · exact h
    · next g _ ha =>
      refine (sameTests_setGroup (.inr fun e he hge => ha ?_)).keeps h
      rw [← hge]
      exact hg.owners e (.inl he)
  case groupClose n =>
    refine hmanage ?_
    unfold judgeGroupClose
    split
    · exact h
    split
    · exact settle_testsTaken _
    · exact h
  case groupReset n =>
    refine hmanage ?_
    unfold judgeGroupReset
    split
    · exact h
    split
    · exact testsTaken_setGroup rfl h
    · exact h
  case release n =>
    refine hmanage ?_
    unfold judgeRelease
    split
    · exact h
    · exact settle_testsTaken _
  case wake =>
    refine hmanage ?_
    unfold judgeWake
    split
    · exact h
    · show TestsTaken (softwareWake s)
      unfold softwareWake
      split
      · exact (sameTests_restartCountdown s).keeps h
      · exact (sameTests_takeWake s).keeps h
  case cycle =>
    refine hmanage ?_
    unfold judgeCycle
    split
    · exact testsTaken_requestSleep true h
    · exact h
  case recover =>
    refine hmanage ?_
    unfold judgeRecover
    split
    · next hu =>
      have ha : s.power.state ≠ .awake := fun ha => by simp [unavailable, ha] at hu
      exact (sameTests_wakeAttempt 1 ha).keeps h
    · exact h
  case faultRetry n =>
    refine hmanage ?_
    unfold judgeFaultRetry
    split
    · exact h
    split
    · exact h
    split
    · exact h
    split
    · exact h
    · exact settle_testsTaken _
  case faultDiscard n =>
    refine hmanage ?_
    unfold judgeFaultDiscard
    split
    · exact h
    split
    · exact settle_testsTaken _
    · exact h
  case clear =>
    refine hmanage ?_
    unfold judgeClear
    split
    · exact settle_testsTaken _
    · exact h
  all_goals exact hwrite _ _

end Commands

end Sys2Proof.Proofs

namespace Sys2Proof.Settled

open Sys2Proof Sys2Proof.Machine Sys2Proof.Proofs

/-- Settles O13: each command ends with the tests, or changes nothing they read. -/
theorem everyStepTakesItsTests : Obligations.EveryStepTakesItsTests := by
  intro s t hp hr hb hg h hstep
  rcases step_cases hstep with ⟨l, f, rfl⟩ | ⟨c, q, l, f, hc⟩
  · exact testsTaken_unread s h
  · exact exec_testsTaken (s := reframed q l f s) { hp with } { hr with } { hb with } { hg with }
      (testsTaken_unread s h) hc

end Sys2Proof.Settled

/-! PROOFS. O41: the presented requests as one list in the arbiter's order (R74, R122, R123), and which entries may be
started (R16, R117, R118). -/

namespace Sys2Proof.Proofs

open Sys2Proof Sys2Proof.Machine

section Lists

variable {α β : Type}

/-- The first that passes both tests, or else the first that passes one of them: as the head of two lists. -/
theorem find_and_or (l : List α) (p q : α → Bool) :
    (l.find? fun x => p x && q x).or (l.find? p) =
      (l.filter (fun x => p x && q x) ++ l.filter fun x => p x && !q x).head? := by
  rw [List.head?_append, List.head?_filter, List.head?_filter]
  rcases h : l.find? (fun x => p x && q x) with _ | x
  · have hnot := List.find?_eq_none.1 h
    rw [Option.none_or, Option.none_or, ← List.head?_filter, ← List.head?_filter]
    refine congrArg List.head? (List.filter_congr fun x hx => ?_)
    have hx := hnot x hx
    rcases hp : p x with _ | _
    · rfl
    · rw [hp, Bool.true_and] at hx
      simp [hx]
  · rfl

end Lists

section Order

variable (s : State)

/-- R74, R122: the presented reads in their order. -/
def readsInOrder : List PendingRead :=
  s.reads.filter (readIs .urgent .retryWait) ++ s.reads.filter (readIs .urgent .ready) ++
    s.reads.filter (readIs .deferrable .retryWait) ++ s.reads.filter (readIs .deferrable .ready)

theorem presentedRead_eq : presentedRead s = (readsInOrder s).head? := by
  simp only [presentedRead, readsInOrder, List.head?_append, List.head?_filter, Option.orElse_eq_orElse,
    Option.orElse_eq_or, Option.or_assoc]

/-- R122: the pass-through writes that wait at their heads, by initiator number. -/
def headsInOrder : List Presented :=
  (List.finRange 6).filterMap fun i =>
    if s.initiators[i].head = .passThrough then s.initiators[i].queue.head?.map (Presented.passNew i) else none

theorem passHead_map (i : InitIx) :
    (passHead s i).map (fun x => Presented.passNew x.1 x.2) =
      if s.initiators[i].head = .passThrough then s.initiators[i].queue.head?.map (Presented.passNew i) else none := by
  unfold passHead
  rcases s.initiators[i].head with _ | c | _
  · rfl
  · rfl
  · rcases s.initiators[i].queue with _ | ⟨r, rest⟩ <;> rfl

theorem presentedPass_eq :
    presentedPass s = (s.passRetries.map Presented.passRetry ++ headsInOrder s).head? := by
  unfold presentedPass
  rcases s.passRetries with _ | ⟨p, ps⟩
  · rw [List.map_nil, List.nil_append, headsInOrder, List.head?_filterMap]
    dsimp only
    rw [List.map_findSome?]
    exact congrArg (fun f => List.findSome? f (List.finRange 6)) (funext (passHead_map s))
  · rfl

/-- R118: the startable entries, expedited ones first. -/
def candidatesInOrder : List EntryIx :=
  s.ageList.filter (fun e => startable s e && s.entries[e].expedite) ++
    s.ageList.filter fun e => startable s e && !s.entries[e].expedite

theorem firstCandidate_eq : firstCandidate s = (candidatesInOrder s).head? := by
  rw [candidatesInOrder, ← find_and_or]
  simp only [firstCandidate, Option.orElse_eq_orElse, Option.orElse_eq_or]

theorem halted_iff : halted s = true ↔ 6 ≤ s.faultOrder.length := decide_eq_true_iff

theorem presentedRelease_eq :
    presentedRelease s =
      (s.releaseRetries.map Presented.releaseRetry ++
        if 6 ≤ s.faultOrder.length then [] else (candidatesInOrder s).map Presented.releaseNew).head? := by
  unfold presentedRelease
  rcases s.releaseRetries with _ | ⟨e, es⟩
  · rw [List.map_nil, List.nil_append]
    by_cases hh : halted s = true
    · rw [if_pos hh, if_pos ((halted_iff s).1 hh)]
      rfl
    · rw [if_neg hh, if_neg (mt (halted_iff s).2 hh), List.head?_map, firstCandidate_eq]
  · rfl

/-- R16: no read of the line holds off its release. -/
theorem heldOff_false_iff (l : LineAddr) :
    heldOff s l = false ↔ ∀ r ∈ s.reads, lineOf r.address = l →
      r.state ≠ .ready ∧ r.state ≠ .issued ∧ r.state ≠ .retryWait := by
  simp only [heldOff, List.any_eq_false, Bool.and_eq_true, Bool.or_eq_true, beq_iff_eq, not_and, not_or, and_assoc]

theorem due_iff (e : EntryIx) :
    due s e = true ↔ s.entries[e].state = .held ∧
      (s.entries[e].expedite = true ∨ s.pressure = true ∨
        ∃ m, s.groups[s.entries[e].group].episode = .mark m ∧ s.entries[e].seq ≤ m) := by
  unfold due
  dsimp only
  rw [Bool.and_eq_true, Bool.or_eq_true, Bool.or_eq_true, beq_iff_eq, episodeCovers_iff]
  refine and_congr_right fun _ => ?_
  rw [or_assoc]
  exact or_congr_right or_comm

end Order

end Sys2Proof.Proofs

namespace Sys2Proof.Settled

open Sys2Proof Sys2Proof.Machine Sys2Proof.Proofs

/-- Settles O41: each source's choice is the head of its list. -/
theorem presentedOrder : Obligations.PresentedOrder := by
  intro s
  refine ⟨?_, fun e => ?_⟩
  · show presented s = (if s.pressure then _ ++ (readsInOrder s).map Presented.read ++ (_ ++ headsInOrder s)
      else (readsInOrder s).map Presented.read ++ (_ ++ headsInOrder s) ++ _).head?
    unfold presented
    dsimp only
    rw [presentedRead_eq, presentedPass_eq, presentedRelease_eq]
    split
    · simp only [List.head?_append, List.head?_map, Option.orElse_eq_orElse, Option.orElse_eq_or, Option.or_assoc]
      rfl
    · simp only [List.head?_append, List.head?_map, Option.orElse_eq_orElse, Option.orElse_eq_or, Option.or_assoc]
      rfl
  · rw [startable, Bool.and_eq_true, due_iff, Bool.not_eq_true', heldOff_false_iff, and_assoc]

end Sys2Proof.Settled

/-! PROOFS. O42: the tag a grant takes and what the request does with it (R114, R115). -/

namespace Sys2Proof.Proofs

open Sys2Proof Sys2Proof.Machine

section Grant

variable {s : State}

/-- R114: a slot is in use while it is BUSY or QUARANTINED, and so while it is not FREE. -/
theorem tagsInUse_eq (s : State) : tagsInUse s = s.slots.countP fun x => x != .free := by
  have hlist (l : List Slot) : l.countP Slot.isBusy + l.countP Slot.isQuarantined = l.countP fun x => x != .free := by
    induction l with
    | nil => rfl
    | cons x xs ih =>
      simp only [List.countP_cons, ← ih]
      cases x <;> simp [Slot.isBusy, Slot.isQuarantined] <;> omega
  unfold tagsInUse busySlots quarantinedSlots
  simp only [← Vector.countP_toList, hlist]

/-- R114, R119: below a credit limit of 8 at most a slot is FREE, and a lowest-numbered one. -/
theorem lowestFreeSlot_of_below (hr : RegistersSound s)
    (h : (s.slots.countP fun x => x != .free) < s.regs.creditLimit.toNat) :
    ∃ k : TagIx, lowestFreeSlot s = some k ∧ s.slots[k] = .free ∧ ∀ j : TagIx, j < k → s.slots[j] ≠ .free := by
  rcases hk : lowestFreeSlot s with _ | k
  · have hall : ∀ j : TagIx, (s.slots[j] == .free) = false := find_finRange_none_iff.1 hk
    have hfull : (s.slots.countP fun x => x != .free) = 8 :=
      Vector.countP_eq_size.2 fun x hx => by
        obtain ⟨j, hj, rfl⟩ := Vector.mem_iff_getElem.1 hx
        exact bne_iff_ne.2 (beq_eq_false_iff_ne.1 (hall ⟨j, hj⟩))
    have hlimit := hr.creditLimit.2
    omega
  · obtain ⟨hfree, hlow⟩ := find_finRange_iff.1 hk
    exact ⟨k, rfl, beq_iff_eq.1 hfree, fun j hj => beq_eq_false_iff_ne.1 (hlow j hj)⟩

theorem isReadOf_iff {i : InitIx} {u : UpTag} {r : PendingRead} :
    isReadOf i u r = true ↔ r.initiator = i ∧ r.tag = u := by
  simp only [isReadOf, Bool.and_eq_true, beq_iff_eq]

theorem updateRead_eq (i : InitIx) (u : UpTag) (f : PendingRead → PendingRead) (s : State) :
    updateRead i u f s =
      { s with reads := s.reads.map fun q => if q.initiator = i ∧ q.tag = u then f q else q } := by
  simp only [updateRead, isReadOf_iff]

/-- R114: no grant while nothing may be issued or nothing is presented. -/
theorem arbiterGrant_of_none (h : s.power.state ≠ .awake ∨ s.regs.creditLimit.toNat ≤ tagsInUse s ∨
    presented s = none) :
    arbiterGrant s = s := by
  unfold arbiterGrant
  split
  · next hmay =>
    simp only [mayGrant, Bool.and_eq_true, beq_iff_eq, decide_eq_true_eq] at hmay
    rcases h with h | h | h
    · exact absurd hmay.1 h
    · omega
    · rw [h]
  · rfl

theorem arbiterGrant_of_some {p : Presented} {k : TagIx} (ha : s.power.state = .awake)
    (hc : tagsInUse s < s.regs.creditLimit.toNat) (hp : presented s = some p) (hk : lowestFreeSlot s = some k) :
    arbiterGrant s = settle (grantTo k p s) := by
  unfold arbiterGrant mayGrant
  rw [if_pos (by simp [ha, hc]), hp, hk]

end Grant

end Sys2Proof.Proofs

namespace Sys2Proof.Settled

open Sys2Proof Sys2Proof.Machine Sys2Proof.Proofs

/-- Settles O42: the requester's part of a grant (grantTo), source by source. -/
theorem grantIssues : Obligations.GrantIssues := by
  intro s hrun
  refine ⟨fun h => next_whileRunning hrun (arbiterGrant_of_none (by rwa [tagsInUse_eq])), fun hr ha hc => ?_⟩
  obtain ⟨k, hk, hfree, hlow⟩ := lowestFreeSlot_of_below hr hc
  refine ⟨k, hfree, hlow, fun p hp => next_whileRunning hrun ?_⟩
  rw [arbiterGrant_of_some ha (by rwa [tagsInUse_eq]) hp hk]
  refine congrArg settle ?_
  cases p with
  | read r =>
    show grantRead k r s = _
    unfold grantRead
    rw [updateRead_eq]
    rfl
  | passRetry x => rfl
  | passNew i r => rfl
  | releaseRetry e => rfl
  | releaseNew e => rfl

end Sys2Proof.Settled

/-! PROOFS. O43, O44: an attempt's end is handed to the owner of its operation (R125, R128): a read's (R77 to R79) and a
pass-through write's (R56, R57). -/

namespace Sys2Proof.Proofs

open Sys2Proof Sys2Proof.Machine

/-! ## The end of an attempt (R125, R128) -/

section Attempts

variable {s v : State} {k : TagIx} {op : SlotOp} {a : Timestamp} {n : Nat} {c : Instr} {cause : FailCause}

theorem complete_of_busy (kind : CompletionKind) (bs : List Byte) (h : s.slots[k] = .busy op a n) :
    complete kind k bs s = settle (handOver kind op n bs (setSlot k .free s)) := by
  rw [complete, h]

theorem timeoutSlot_of_busy (h : s.slots[k] = .busy op a n) (ht : timedOut s a = true) :
    timeoutSlot k s = settle (attemptFailed op n .timeout (setSlot k (.quarantined (kindOf op) a n) s)) := by
  rw [timeoutSlot, h]
  exact if_pos ht

theorem handOver_ok {bs : List Byte} (h : byteCountOk op bs = true) : handOver .ok op n bs s = attemptOk op bs s := by
  rw [handOver, takenAs, if_pos h]

/-- R125: a completion with bytes that its slot's kind does not call for is a failure. -/
theorem handOver_miscounted (kind : CompletionKind) {bs : List Byte} (h : byteCountOk op bs = false) :
    handOver kind op n bs s = attemptFailed op n .fail s := by
  rw [handOver, takenAs, h]
  rfl

theorem handOver_fail (bs : List Byte) : handOver .fail op n bs s = attemptFailed op n .fail s := by
  rw [handOver, takenAs, ite_self]

theorem handOver_poison (bs : List Byte) :
    handOver .poison op n bs s = attemptFailed op n (if byteCountOk op bs then .poison else .fail) s := by
  rw [handOver, takenAs]
  cases byteCountOk op bs <;> rfl

/-- R125: a COMPLETE_OK with the bytes its slot's kind calls for. -/
theorem exec_completeOk {bs : List Byte} (hr : s.resetPin = .released) (h : s.slots[k] = .busy op a n)
    (hb : byteCountOk op bs = true) :
    exec (.completeOk k bs) s = .next (settle (attemptOk op bs (setSlot k .free s))) :=
  next_whileRunning hr (by rw [complete_of_busy .ok bs h, handOver_ok hb])

/-- R79, R57, R126: a failed attempt goes to the owner of its operation. -/
theorem exec_attemptFails (h : AttemptFails s k op n c cause v) :
    exec c s = .next (settle (attemptFailed op n cause v)) := by
  obtain ⟨hr, a, hk, ⟨bs, rfl, rfl, rfl⟩ | ⟨bs, rfl, rfl, rfl⟩ | ⟨bs, rfl, hb, rfl, rfl⟩ | ⟨rfl, ht, rfl, rfl⟩⟩ := h
  · exact next_whileRunning hr (by rw [complete_of_busy .fail bs hk, handOver_fail])
  · exact next_whileRunning hr (by rw [complete_of_busy .poison bs hk, handOver_poison])
  · exact next_whileRunning hr (by rw [complete_of_busy .ok bs hk, handOver_miscounted .ok hb])
  · exact next_whileRunning hr (timeoutSlot_of_busy hk ht)

/-- A failed attempt changes its slot alone before it is handed over. -/
theorem slot_of_attemptFails (h : AttemptFails s k op n c cause v) : ∃ x, v = setSlot k x s := by
  obtain ⟨-, a, -, ⟨bs, -, -, rfl⟩ | ⟨bs, -, -, rfl⟩ | ⟨bs, -, -, -, rfl⟩ | ⟨-, -, -, rfl⟩⟩ := h
  · exact ⟨_, rfl⟩
  · exact ⟨_, rfl⟩
  · exact ⟨_, rfl⟩
  · exact ⟨_, rfl⟩

end Attempts

/-! ## A read's attempt (R77 to R79) and a pass-through write's (R57) -/

section Reads

variable {s : State} {i : InitIx} {u : UpTag} {r : PendingRead}

theorem isReadOf_eq (i : InitIx) (u : UpTag) (q : PendingRead) :
    isReadOf i u q = (decide (q.initiator = i) && decide (q.tag = u)) := by
  rw [Bool.eq_iff_iff, isReadOf_iff, Bool.and_eq_true, decide_eq_true_iff, decide_eq_true_iff]

theorem removeRead_eq (i : InitIx) (u : UpTag) (s : State) :
    removeRead i u s =
      { s with reads := s.reads.filter fun q => !(decide (q.initiator = i) && decide (q.tag = u)) } := by
  simp only [removeRead, isReadOf_eq]

theorem lineOfList_toList (l : Line) : lineOfList l.toList = some l := by
  rw [lineOfList, dif_pos (Vector.length_toList)]
  rfl

/-- R77: at a position of the line the HELD entry's byte where it has one, and else the byte returned. -/
theorem returnedLine_at (s : State) (l : LineAddr) (returned : Line) (p : Fin 64) :
    (∃ e : EntryIx, lookup s l = some e ∧ s.entries[e].state = .held ∧ s.entries[e].mask.getLsbD p.val = true ∧
        (returnedLine s l returned)[p] = s.entries[e].data[p]) ∨
      ((∀ e : EntryIx, lookup s l = some e → s.entries[e].state = .held → s.entries[e].mask.getLsbD p.val = false) ∧
        (returnedLine s l returned)[p] = returned[p]) := by
  unfold returnedLine
  rcases lookup s l with _ | e
  · exact .inr ⟨nofun, rfl⟩
  dsimp only
  by_cases hheld : s.entries[e].state = .held
  · rw [if_pos hheld, overlay_at]
    rcases hm : s.entries[e].mask.getLsbD p.val with _ | _
    · exact .inr ⟨fun f hf _ => Option.some.inj hf ▸ hm, if_neg nofun⟩
    · exact .inl ⟨e, rfl, hheld, hm, if_pos rfl⟩
  · rw [if_neg hheld]
    exact .inr ⟨fun f hf h => absurd (Option.some.inj hf ▸ h) hheld, rfl⟩

theorem readDone_of_find (l : Line) (h : s.reads.find? (isReadOf i u) = some r) :
    readDone i u l s =
      respond i u (.data (bytesAt r.address r.length.toNat (returnedLine s (lineOf r.address) l)))
          (removeRead i u s) := by
  rw [readDone, h]

theorem readFailed_again (h : s.reads.find? (isReadOf i u) = some r) (hleft : r.attempts < s.regs.rdRetry.toNat) :
    readFailed i u s =
      updateRead i u (fun r => { r with state := .retryWait, attempts := r.attempts + 1, slot := none })
        (countRetry s) := by
  rw [readFailed, h]
  exact if_pos hleft

theorem readFailed_last (h : s.reads.find? (isReadOf i u) = some r) (hnone : s.regs.rdRetry.toNat ≤ r.attempts) :
    readFailed i u s = raise .readFailed (respond i u (.error .memory) (removeRead i u (countRetry s))) := by
  rw [readFailed, h]
  exact if_neg (Nat.not_lt.2 hnone)

theorem passFailed_again {w : PassWrite} {n : Nat} (hleft : n - 1 < s.regs.wrRetry.toNat) :
    passFailed w n s =
      { countRetry s with passRetries := s.passRetries ++ [{ write := w, failed := n }] } :=
  if_pos hleft

theorem passFailed_last {w : PassWrite} {n : Nat} (hnone : s.regs.wrRetry.toNat ≤ n - 1) :
    passFailed w n s = respond w.initiator w.tag (.error .memory) (countRetry s) :=
  if_neg (Nat.not_lt.2 hnone)

end Reads

end Sys2Proof.Proofs

namespace Sys2Proof.Settled

open Sys2Proof Sys2Proof.Machine Sys2Proof.Proofs

/-- Settles O43: R77 byte by byte (`returnedLine_at`), R79 by the attempts left. -/
theorem readAttemptEnds : Obligations.ReadAttemptEnds := by
  intro k i u n s r hread
  refine ⟨fun a l hrun hk => ?_, fun c cause v h => ?_⟩
  · refine ⟨bytesAt r.address r.length.toNat (returnedLine s (lineOf r.address) l), bytesAt_length .., ?_, ?_⟩
    · intro j p hj hp
      rw [bytesAt_length] at hj
      rw [bytesAt_at hj hp]
      rcases returnedLine_at s (lineOf r.address) l p with ⟨e, he, hheld, hm, hb⟩ | ⟨hno, hb⟩
      · exact .inl ⟨e, he, hheld, hm, congrArg some hb⟩
      · exact .inr ⟨hno, congrArg some hb⟩
    · have hb : byteCountOk (.read i u) l.toList = true := beq_iff_eq.2 Vector.length_toList
      have hdone : attemptOk (.read i u) l.toList (setSlot k .free s) = readDone i u l (setSlot k .free s) := by
        rw [attemptOk, lineOfList_toList]
      rw [exec_completeOk hrun hk hb, hdone, readDone_of_find (s := setSlot k .free s) l hread, removeRead_eq]
      rfl
  · rw [exec_attemptFails h]
    obtain ⟨x, rfl⟩ := slot_of_attemptFails h
    show (_ → Host.Outcome.next (settle (readFailed i u (setSlot k x s))) = _) ∧
      (_ → Host.Outcome.next (settle (readFailed i u (setSlot k x s))) = _)
    refine ⟨fun hleft => ?_, fun hnone => ?_⟩
    · rw [readFailed_again (s := setSlot k x s) hread hleft, updateRead_eq]
      rfl
    · rw [readFailed_last (s := setSlot k x s) hread hnone, removeRead_eq]
      rfl

/-- Settles O44: R56 and R57 by the attempts left. -/
theorem passWriteAttemptEnds : Obligations.PassWriteAttemptEnds := by
  intro k w n s
  refine ⟨fun a hrun hk => exec_completeOk (bs := []) hrun hk rfl, fun c cause v h => ?_⟩
  rw [exec_attemptFails h]
  obtain ⟨x, rfl⟩ := slot_of_attemptFails h
  show (_ → Host.Outcome.next (settle (passFailed w n (setSlot k x s))) = _) ∧
    (_ → Host.Outcome.next (settle (passFailed w n (setSlot k x s))) = _)
  refine ⟨fun hleft => ?_, fun hnone => ?_⟩
  · rw [passFailed_again (s := setSlot k x s) hleft]
    rfl
  · rw [passFailed_last (s := setSlot k x s) hnone]
    rfl

end Sys2Proof.Settled

/-! PROOFS. O45, O46: how a release ends (R18 to R21, R75, R126): each transition of its entry as an update of the state's
fields. -/

namespace Sys2Proof.Proofs

open Sys2Proof Sys2Proof.Machine

section Release

variable {s : State} {e : EntryIx} {x : Entry} {cause : FailCause}

/-- R10: what a list of waiters is sent. -/
def answersTo (ws : List Waiter) (r : Response) : List UpMessage :=
  ws.map fun w => .response (BitVec.ofNat 3 w.initiator.val) w.tag r

theorem respondAll_eq (ws : List Waiter) (r : Response) (s : State) :
    respondAll ws r s =
      { s with
        upstreamOut := s.upstreamOut ++ answersTo ws r
        initiators := (respondAll ws r s).initiators } :=
  (respondAll_answering r).fold_eq ws s

theorem respondAll_initiator (ws : List Waiter) (r : Response) (s : State) (i : InitIx) :
    (respondAll ws r s).initiators[i] = { s.initiators[i] with tags := (respondAll ws r s).initiators[i].tags } ∧
      ∀ n : UpTag, (respondAll ws r s).initiators[i].tags.getLsbD n.toNat =
        (s.initiators[i].tags.getLsbD n.toNat && !(ws.any fun w => w.initiator == i && w.tag == n)) :=
  (respondAll_answering r).fold_initiator ws s i

/-! ### To FREE (R18, R75) -/

/-- R18, R75: the state after a release that has completed, before the STALL waits end. -/
theorem carryReads_releaseToFree (h : s.entries[e] = x) :
    carryReads x.line (releaseToFree e s) =
      { s with
        entries := s.entries.set e (.cleared x.data)
        counts := { s.counts with releasing := s.counts.releasing - 1 }
        upstreamOut := s.upstreamOut ++ answersTo x.waiters .done
        reads := s.reads.map (readAfterRelease x.line)
        initiators := (respondAll x.waiters .done s).initiators } := by
  subst h
  exact congrArg (fun t : State => carryReads s.entries[e].line
    { t with
      entries := t.entries.set e (.cleared s.entries[e].data)
      counts := { t.counts with releasing := t.counts.releasing - 1 } }) (respondAll_eq s.entries[e].waiters .done s)

theorem releaseDone_of_releasing (h : s.entries[e] = x) (hx : x.state = .releasing) :
    releaseDone e s = testDrains x.group (testEpisode x.group (endStalls (carryReads x.line (releaseToFree e s)))) := by
  subst h
  exact if_pos hx

theorem endStall_eq (q : Initiator) :
    endStall q = { q with head := if q.head = .waiting .stall then .undecided else q.head } := by
  unfold endStall headStalls
  by_cases h : q.head = .waiting .stall
  · simp [h]
  · simp [h]

/-! ### A failed attempt (R126) -/

theorem releaseFailed_again (h : s.entries[e] = x) (hx : x.state = .releasing)
    (hleft : x.attempts < s.regs.wrRetry.toNat) :
    releaseFailed e cause s =
      { countRetry s with
        entries := s.entries.set e { x with attempts := x.attempts + 1, lastCause := some cause }
        releaseRetries := s.releaseRetries ++ [e] } := by
  subst h
  unfold releaseFailed
  dsimp only
  rw [if_pos hx]
  exact if_pos hleft

/-- R126: the state in which an exhausted release is settled: the failure is counted and its cause recorded. -/
def exhausted (e : EntryIx) (cause : FailCause) (s : State) : State :=
  setEntry e { s.entries[e] with lastCause := some cause } (countRetry s)

theorem exhausted_entry (h : s.entries[e] = x) :
    (exhausted e cause s).entries[e] = { x with lastCause := some cause } := by
  subst h
  exact (getElem_set_fin ..).trans (if_pos rfl)

theorem exhausted_set (y : Entry) : (exhausted e cause s).entries.set e y = s.entries.set e y := Vector.set_set ..

theorem releaseFailed_faults {f : FaultIx} (hx : s.entries[e].state = .releasing)
    (hnone : s.regs.wrRetry.toNat ≤ s.entries[e].attempts) (hroom : s.faultOrder.length < 6)
    (hf : lowestFreeFault s = some f) : releaseFailed e cause s = faultRelease e f cause (exhausted e cause s) := by
  unfold releaseFailed
  dsimp only
  rw [if_pos hx]
  refine (if_neg (Nat.not_lt.2 hnone)).trans ?_
  have hmatch : (if halted (exhausted e cause s) then none else lowestFreeFault (exhausted e cause s)) = some f := by
    rw [if_neg (fun h => Nat.not_le.2 hroom ((halted_iff (exhausted e cause s)).1 h))]
    exact hf
  show (match (if halted (exhausted e cause s) then none else lowestFreeFault (exhausted e cause s)) with
    | some k => faultRelease e k cause (exhausted e cause s)
    | none => returnRelease e (exhausted e cause s)) = _
  rw [hmatch]

theorem releaseFailed_returns (hx : s.entries[e].state = .releasing)
    (hnone : s.regs.wrRetry.toNat ≤ s.entries[e].attempts) (hfull : 6 ≤ s.faultOrder.length) :
    releaseFailed e cause s = returnRelease e (exhausted e cause s) := by
  unfold releaseFailed
  dsimp only
  rw [if_pos hx]
  refine (if_neg (Nat.not_lt.2 hnone)).trans ?_
  show (match (if halted (exhausted e cause s) then none else lowestFreeFault (exhausted e cause s)) with
    | some k => faultRelease e k cause (exhausted e cause s)
    | none => returnRelease e (exhausted e cause s)) = _
  rw [if_pos ((halted_iff (exhausted e cause s)).2 hfull)]

/-! ### To FAULTED (R19, R75, R162) -/

theorem releaseToFaulted_eq {f : FaultIx} (h : s.entries[e] = x) :
    releaseToFaulted e f cause s =
      { s with
        entries := s.entries.set e { x with state := .faulted, waiters := [], faultSlot := some f }
        faults := s.faults.set f (some
          { entry := e, line := x.line, group := x.group, mask := x.mask, cause := cause,
            attemptsMade := x.attempts + 1, time := s.timestamp })
        faultOrder := s.faultOrder ++ [f]
        counts := { s.counts with releasing := s.counts.releasing - 1, faulted := s.counts.faulted + 1 }
        events := s.events ||| 0x0001
        upstreamOut := s.upstreamOut ++ answersTo x.waiters (.error .memory)
        initiators := (respondAll x.waiters (.error .memory) s).initiators } := by
  subst h
  exact congrArg (fun t : State => raise .faultAdded
    { t with
      entries := t.entries.set e { s.entries[e] with state := .faulted, waiters := [], faultSlot := some f }
      faults := t.faults.set f (some (faultRecordOf s e cause))
      faultOrder := t.faultOrder ++ [f]
      counts := { t.counts with releasing := t.counts.releasing - 1, faulted := t.counts.faulted + 1 } })
    (respondAll_eq s.entries[e].waiters (.error .memory) s)

/-- R75: the reads that wait on the line's release. -/
theorem waitsOnRelease_eq (l : LineAddr) (r : PendingRead) :
    waitsOnRelease l r = (decide (lineOf r.address = l) && decide (r.state = .waitRelease)) := by
  rw [Bool.eq_iff_iff, waitsOnRelease, Bool.and_eq_true, Bool.and_eq_true, beq_iff_eq, beq_iff_eq, decide_eq_true_iff,
    decide_eq_true_iff]

/-- R75: the state once the reads that wait have been answered ERROR FAULTED_LINE and have left the list, with the queue
records that the answers leave. -/
def withReadsRefused (waits : PendingRead → Bool) (v : Vector Initiator Config.numInitiators) (s : State) : State :=
  { s with
    upstreamOut := s.upstreamOut ++ (s.reads.filter waits).map fun y =>
      .response (BitVec.ofNat 3 y.initiator.val) y.tag (.error .faultedLine)
    reads := s.reads.filter fun r => !waits r
    initiators := v }

theorem refuseWaitingReads_eq (l : LineAddr) (s : State) :
    refuseWaitingReads l s = withReadsRefused (waitsOnRelease l) (refuseWaitingReads l s).initiators s :=
  (refuseRead_answering .faultedLine).fold_eq (s.reads.filter (waitsOnRelease l)) { s with reads := _ }

theorem refuseWaitingReads_initiator (l : LineAddr) (s : State) (i : InitIx) :
    (refuseWaitingReads l s).initiators[i] =
        { s.initiators[i] with tags := (refuseWaitingReads l s).initiators[i].tags } ∧
      ∀ n : UpTag, (refuseWaitingReads l s).initiators[i].tags.getLsbD n.toNat =
        (s.initiators[i].tags.getLsbD n.toNat &&
          !((s.reads.filter (waitsOnRelease l)).any fun y => y.initiator == i && y.tag == n)) :=
  (refuseRead_answering .faultedLine).fold_initiator (s.reads.filter (waitsOnRelease l)) { s with reads := _ } i

theorem faultRelease_eq {f : FaultIx} (h : s.entries[e] = x) :
    faultRelease e f cause s =
      testDrains x.group (testEpisode x.group (refuseWaitingReads x.line (releaseToFaulted e f cause s))) := by
  subst h
  rfl

/-! ### Back to HELD (R20) -/

/-- R13: with the numbers rising, the place a number gives is behind the smaller and before the larger. -/
theorem insertBySeq_eq {l : List EntryIx} (hrise : l.Pairwise fun f g => s.entries[f].seq < s.entries[g].seq)
    (hne : ∀ f ∈ l, s.entries[f].seq ≠ s.entries[e].seq) :
    insertBySeq s e l =
      l.filter (fun f => decide (s.entries[f].seq < s.entries[e].seq)) ++ [e] ++
        l.filter fun f => decide (s.entries[e].seq < s.entries[f].seq) := by
  induction l with
  | nil => rfl
  | cons f fs ih =>
    obtain ⟨hfirst, hrest⟩ := List.pairwise_cons.1 hrise
    have hnot {a b : Seq} (h : a < b) : ¬ b < a := by bv_omega
    unfold insertBySeq
    split
    · next hlt =>
      have hlater : ∀ g ∈ fs, s.entries[e].seq < s.entries[g].seq := fun g hg => BitVec.lt_trans hlt (hfirst g hg)
      have hnone : fs.filter (fun g => decide (s.entries[g].seq < s.entries[e].seq)) = [] :=
        List.filter_eq_nil_iff.2 fun g hg => by simpa using hnot (hlater g hg)
      have hall : fs.filter (fun g => decide (s.entries[e].seq < s.entries[g].seq)) = fs :=
        List.filter_eq_self.2 fun g hg => decide_eq_true (hlater g hg)
      rw [List.filter_cons_of_neg (by simpa using hnot hlt), List.filter_cons_of_pos (by simpa using hlt), hnone, hall]
      rfl
    · next hge =>
      have hlt : s.entries[f].seq < s.entries[e].seq := by
        have := hne f (List.mem_cons_self ..)
        bv_omega
      rw [List.filter_cons_of_pos (by simpa using hlt), List.filter_cons_of_neg (by simpa using hnot hlt),
        ih hrest fun g hg => hne g (List.mem_cons_of_mem _ hg)]
      rfl

theorem returnRelease_eq (h : s.entries[e] = x) :
    returnRelease e s =
      testDrains x.group (testEpisode x.group (heldRose x.group
        { s with
          entries := s.entries.set e { x with state := .held, attempts := 0, lastCause := none }
          ageList := insertBySeq s e s.ageList
          counts :=
            { s.counts with
              held := s.counts.held + 1, releasing := s.counts.releasing - 1
              groupHeld := s.counts.groupHeld.set x.group (s.counts.groupHeld[x.group] + 1) }
          reads := s.reads.map fun r =>
            if lineOf r.address = x.line ∧ r.state = .waitRelease then { r with state := .ready } else r })) := by
  subst h
  rfl

/-- The sequence numbers, and so the place they give, do not read a recorded cause. -/
theorem insertBySeq_exhausted (l : List EntryIx) : insertBySeq (exhausted e cause s) e l = insertBySeq s e l := by
  have hseq (f : EntryIx) : (exhausted e cause s).entries[f].seq = s.entries[f].seq := by
    rw [show (exhausted e cause s).entries[f] = if f = e then { s.entries[e] with lastCause := some cause } else s.entries[f]
      from getElem_set_fin ..]
    split
    · next h => rw [h]
    · rfl
  induction l with
  | nil => rfl
  | cons f fs ih => rw [insertBySeq, insertBySeq, hseq, hseq, ih]

/-- R13: the age list holds no number of a RELEASING entry. -/
theorem insertBySeq_releasing (hs : StoreSound s) (hx : s.entries[e].state = .releasing) :
    insertBySeq s e s.ageList =
      s.ageList.filter (fun f => decide (s.entries[f].seq < s.entries[e].seq)) ++ [e] ++
        s.ageList.filter fun f => decide (s.entries[e].seq < s.entries[f].seq) := by
  refine insertBySeq_eq hs.rising fun f hf hseq => ?_
  have hheld := (hs.listed f).1 hf
  have hfe : f = e := hs.numbers f e (by rw [bound, hheld]; exact nofun) (by rw [bound, hx]; exact nofun) hseq
  rw [hfe, hx] at hheld
  cases hheld

end Release

end Sys2Proof.Proofs

namespace Sys2Proof.Settled

open Sys2Proof Sys2Proof.Machine Sys2Proof.Proofs

/-- Settles O45: R18 and R75 field by field; the answers take the waiters' tags and the end of the STALL waits the heads. -/
theorem releaseCompletes : Obligations.ReleaseCompletes := by
  intro k e a n s hrun hk hx
  have hdone := releaseDone_of_releasing (s := setSlot k .free s) (e := e) (x := s.entries[e]) rfl hx
  have hu := carryReads_releaseToFree (s := setSlot k .free s) (e := e) (x := s.entries[e]) rfl
  refine ⟨endStalls (carryReads s.entries[e].line (releaseToFree e (setSlot k .free s))), congrArg endStalls hu,
      fun i => ?_, ?_⟩
  · obtain ⟨hrest, htags⟩ := respondAll_initiator s.entries[e].waiters .done (setSlot k .free s) i
    have hi : (endStalls (carryReads s.entries[e].line (releaseToFree e (setSlot k .free s)))).initiators[i] =
        endStall (respondAll s.entries[e].waiters .done (setSlot k .free s)).initiators[i] := by
      rw [endStalls_initiator, hu]
    rw [hi, endStall_eq]
    refine ⟨?_, htags⟩
    rw [hrest]
    rfl
  · rw [exec_completeOk (bs := []) hrun hk rfl]
    exact congrArg (fun t => Host.Outcome.next (settle t)) hdone

/-- Settles O46: R126 by the attempts left and the room in the fault list. -/
theorem releaseAttemptFails : Obligations.ReleaseAttemptFails := by
  intro k e n s c cause v h hx
  rw [exec_attemptFails h]
  obtain ⟨y, rfl⟩ := slot_of_attemptFails h
  have hentry := exhausted_entry (s := setSlot k y s) (e := e) (x := s.entries[e]) (cause := cause) rfl
  refine ⟨fun hleft => ?_, fun f hnone hroom hfree hlow => ?_, fun hs hnone hfull => ?_⟩
  · exact congrArg (fun t => Host.Outcome.next (settle t)) (releaseFailed_again (s := setSlot k y s) rfl hx hleft)
  · have hf : lowestFreeFault s = some f :=
      find_finRange_iff.2 ⟨by rw [hfree]; rfl, fun j hj => Option.isNone_eq_false_iff.2 (Option.isSome_iff_ne_none.2 (hlow j hj))⟩
    have hfail := (releaseFailed_faults (s := setSlot k y s) (cause := cause) hx hnone hroom hf).trans
      (faultRelease_eq hentry)
    have hfaulted := releaseToFaulted_eq (cause := cause) (f := f) hentry
    rw [exhausted_set] at hfaulted
    have hreads : (releaseToFaulted e f cause (exhausted e cause (setSlot k y s))).reads =
        s.reads := by rw [hfaulted]; rfl
    have hwaits : waitsOnRelease s.entries[e].line = fun r =>
      decide (lineOf r.address = s.entries[e].line) && decide (r.state = .waitRelease) := funext (waitsOnRelease_eq _)
    refine ⟨refuseWaitingReads s.entries[e].line (releaseToFaulted e f cause (exhausted e cause (setSlot k y s))),
      ?_, fun i => ?_, congrArg (fun t => Host.Outcome.next (settle t)) hfail⟩
    · have hrefuse := refuseWaitingReads_eq s.entries[e].line
        (releaseToFaulted e f cause (exhausted e cause (setSlot k y s)))
      rw [hwaits] at hrefuse
      refine hrefuse.trans ?_
      exact congrArg (withReadsRefused _ _) hfaulted
    · obtain ⟨hrest, htags⟩ := refuseWaitingReads_initiator s.entries[e].line
        (releaseToFaulted e f cause (exhausted e cause (setSlot k y s))) i
      obtain ⟨hrest', htags'⟩ := respondAll_initiator s.entries[e].waiters (.error .memory)
        (exhausted e cause (setSlot k y s)) i
      have hi : (releaseToFaulted e f cause (exhausted e cause (setSlot k y s))).initiators[i] =
          (respondAll s.entries[e].waiters (.error .memory) (exhausted e cause (setSlot k y s))).initiators[i] := by
        rw [hfaulted]
      refine ⟨?_, fun n => ?_⟩
      · rw [hrest, hi, hrest']
        rfl
      · rw [htags, hi, htags', hreads, hwaits]
        rfl
  · have hreturn := (releaseFailed_returns (s := setSlot k y s) (cause := cause) hx hnone hfull).trans
      (returnRelease_eq hentry)
    rw [insertBySeq_exhausted, exhausted_set] at hreturn
    rw [show (exhausted e cause (setSlot k y s)).ageList = s.ageList from rfl,
      show insertBySeq (setSlot k y s) e s.ageList = _ from
        insertBySeq_releasing (s := setSlot k y s) { hs with } hx] at hreturn
    exact congrArg (fun t => Host.Outcome.next (settle t)) hreturn

end Sys2Proof.Settled

/-! PROOFS. O48, O49, O51: the sleep and wake handshake, the countdowns and timers, and the entry to AWAKE (chapter 7). -/

namespace Sys2Proof.Proofs

open Sys2Proof Sys2Proof.Machine

/-! ## How a judgement is answered (R177) -/

section Judged

variable {s t : State} {c : Instr} {n : CommandName} {args : List Byte} {judge : State → Answer}

theorem answers_ok (ht : takesCommand s = true) (hframe : frameOf c = some (commandByte n, args))
    (hexec : exec c s = .next (manage n args judge s)) (hj : judge s = ok t) : Answers c s .ok [] t := by
  have h := answers_judged ht hframe hexec
  rw [hj] at h
  exact h

theorem answers_okData {bs : List Byte} (ht : takesCommand s = true) (hframe : frameOf c = some (commandByte n, args))
    (hexec : exec c s = .next (manage n args judge s)) (hj : judge s = okData bs s) : Answers c s .ok bs s := by
  have h := answers_judged ht hframe hexec
  rw [hj] at h
  exact h

theorem answers_denied {st : Status} (ht : takesCommand s = true) (hframe : frameOf c = some (commandByte n, args))
    (hexec : exec c s = .next (manage n args judge s)) (hj : judge s = denied st s) (hst : st ≠ .ok) :
    Answers c s st (List.replicate (dataBytes n) 0) s := by
  have h := answers_judged ht hframe hexec
  rwa [hj, answerData, answerState, if_neg (show (denied st s).status ≠ .ok from hst),
    if_neg (show (denied st s).status ≠ .ok from hst)] at h

end Judged

/-! ## Sleep and wake (R142, R143, R156, R157) -/

section Power

variable {s : State}

/-- R142: the wake is wanted as before SLEEP_ACCEPT, for no standing cause reads what it changes but that the power state
is not AWAKE. -/
theorem goAsleep_eq (he : s.power.state = .entering) :
    goAsleep s =
      let u := setPower { s.power with state := .asleep, notedWake := false, cycleOwed := false }
        (countSleep (freeQuarantined s))
      if s.power.notedWake || s.power.cycleOwed || urgentStands s || deferredStand s || pressureStands s then
        wakeAttempt 1 u
      else u := by
  have hurgent : urgentStands s = urgentStands (setPower { s.power with state := .asleep } s) := by
    unfold urgentStands
    rw [he]
    rfl
  rw [hurgent, Bool.or_assoc (s.power.notedWake || s.power.cycleOwed),
      Bool.or_assoc (s.power.notedWake || s.power.cycleOwed)]
  rfl

/-- R102: the pending releases at an entry to AWAKE. -/
theorem clearPendingReleases_eq (s : State) :
    clearPendingReleases s =
      { s with
        groups := if 6 ≤ s.faultOrder.length then s.groups
          else s.groups.map fun x => { x with pendingRelease := false } } := by
  unfold clearPendingReleases
  by_cases h : halted s = true
  · rw [if_pos h, if_pos ((halted_iff s).1 h)]
  · rw [if_neg h, if_neg (mt (halted_iff s).2 h)]

theorem enterAwake_eq (s : State) :
    enterAwake s = settle
      { s with
        reads := s.reads.map (wokenRead s)
        groups := if 6 ≤ s.faultOrder.length then s.groups
          else s.groups.map fun x => { x with pendingRelease := false } } := by
  rw [enterAwake, clearPendingReleases_eq]
  rfl

theorem judgeCycle_accepted (ha : s.power.state = .awake) (hi : idleCondition s = true) :
    judgeCycle s = ok (requestSleep true s) := if_pos (by simp [ha, hi])

theorem judgeCycle_busy (h : s.power.state ≠ .awake ∨ idleCondition s = false) : judgeCycle s = denied .busy s :=
  if_neg fun hc => by
    simp only [Bool.and_eq_true, beq_iff_eq] at hc
    rcases h with h | h
    · exact h hc.1
    · exact Bool.false_ne_true (h.symm.trans hc.2)

theorem judgeWake_refused (h : s.power.state = .unavailable) : judgeWake s = denied .refused s :=
  if_pos (unavailable_iff.2 h)

theorem judgeWake_accepted (h : s.power.state ≠ .unavailable) : judgeWake s = ok (softwareWake s) :=
  if_neg (mt unavailable_iff.1 h)

theorem judgeRecover_accepted (h : s.power.state = .unavailable) : judgeRecover s = ok (wakeAttempt 1 s) :=
  if_pos (unavailable_iff.2 h)

theorem judgeRecover_refused (h : s.power.state ≠ .unavailable) : judgeRecover s = denied .refused s :=
  if_neg (mt unavailable_iff.1 h)

theorem sleepDue_of_idle (ha : s.power.state = .awake) (hc : s.power.sleepCountdown = some 0)
    (hi : idleCondition s = true) : sleepDue s = true := by
  simp [sleepDue, ha, hc, hi]

end Power

/-! ## Timers (R72, R95, R96, R153) -/

section Timers

variable {s : State}

/-- R72: the oldest DEFERRED read. -/
theorem deferLimitMet_of_oldest {r : PendingRead} (hr : s.reads.find? (fun r => r.state == .deferred) = some r)
    (h : s.regs.deferLimit.toNat ≤ (s.timestamp - r.arrival).toNat) : deferLimitMet s = true := by
  rw [← List.head?_filter] at hr
  unfold deferLimitMet deferredReads
  rcases hl : s.reads.filter (fun r => r.state == .deferred) with _ | ⟨x, rest⟩
  · rw [hl] at hr
    cases hr
  · rw [hl] at hr
    cases hr
    rw [hl]
    exact decide_eq_true h

theorem ranFor_of_elapsed {start : Timestamp} {period : BitVec 16} (hp : period ≠ 0)
    (h : period.toNat * 10 ≤ (s.timestamp - start).toNat) : ranFor s (some start) period = true := by
  rw [ranFor, Bool.and_eq_true, bne_iff_ne, decide_eq_true_iff]
  exact ⟨hp, h⟩

theorem ageExpiry_due {g : GroupIx} (hh : s.groups[g].state = .holding)
    (h : ranFor s s.groups[g].ageTimer s.groups[g].ageLimit = true) :
    ageExpiry g s = settle (expiryRequest g (setGroup g { s.groups[g] with ageTimer := none } s)) :=
  if_pos ⟨hh, h⟩

theorem quietExpiry_due {g : GroupIx} (hh : s.groups[g].state = .holding) (hq : s.groups[g].relMode = .quiet)
    (h : ranFor s s.groups[g].quietTimer s.groups[g].relValue = true) :
    quietExpiry g s = settle (expiryRequest g (setGroup g { s.groups[g] with quietTimer := none } s)) :=
  if_pos ⟨hh, hq, h⟩

/-- R153: the wake of a window boundary. -/
theorem boundaryWake_eq (s : State) :
    boundaryWake s =
      if (∃ g : GroupIx, s.groups[g].pendingRelease = true) ∧ s.faultOrder.length < 6 then takeWake s else s := by
  have h : (((s.groups.any fun x => x.pendingRelease) && !halted s) = true) ↔
      (∃ g : GroupIx, s.groups[g].pendingRelease = true) ∧ s.faultOrder.length < 6 := by
    rw [Bool.and_eq_true, any_fin_iff, Bool.not_eq_true', ← Bool.not_eq_true, halted_iff, Nat.not_le]
  unfold boundaryWake
  by_cases hw : ((s.groups.any fun x => x.pendingRelease) && !halted s) = true
  · rw [if_pos hw, if_pos (h.1 hw)]
  · rw [if_neg hw, if_neg (mt h.2 hw)]

theorem takeWake_staged (s : State) : (takeWake s).power.staged = s.power.staged := by
  rw [takeWake_power, wokenPower]
  split <;> rfl

theorem boundaryWake_staged (s : State) : (boundaryWake s).power.staged = s.power.staged := by
  unfold boundaryWake
  split
  · exact takeWake_staged s
  · rfl

end Timers

end Sys2Proof.Proofs

namespace Sys2Proof.Settled

open Sys2Proof Sys2Proof.Machine Sys2Proof.Proofs

/-- Settles O48: SLEEP_REQUEST by the idle condition, WAKE and RECOVER by the power state. -/
theorem sleepAndWakeRequested : Obligations.SleepAndWakeRequested := by
  intro s
  refine ⟨fun hr ha hc hi => next_whileRunning hr (if_pos (sleepDue_of_idle ha hc hi)),
      fun ht => ⟨?_, ?_, ?_, ?_, ?_, ?_, ?_⟩⟩
  · exact fun ha hi => answers_ok (n := .cycle) ht rfl rfl (judgeCycle_accepted ha hi)
  · exact fun h => answers_denied (n := .cycle) ht rfl rfl (judgeCycle_busy h) nofun
  · exact fun h => answers_denied (n := .wake) ht rfl rfl (judgeWake_refused h) nofun
  · intro ha
    have hw : softwareWake s = restartCountdown s := if_pos ha
    have h := answers_ok (c := .wake) (n := .wake) (args := []) ht rfl rfl
      (judgeWake_accepted (s := s) (by rw [ha]; exact nofun))
    rw [hw] at h
    exact h
  · intro ha hu
    have hw : softwareWake s = takeWake s := if_neg ha
    have h := answers_ok (c := .wake) (n := .wake) (args := []) ht rfl rfl (judgeWake_accepted hu)
    rwa [hw] at h
  · exact fun h => answers_ok (n := .recover) ht rfl rfl (judgeRecover_accepted h)
  · exact fun h => answers_denied (n := .recover) ht rfl rfl (judgeRecover_refused h) nofun

/-- Settles O49: SLEEP_ACCEPT by whether a wake is wanted; both entries to AWAKE are enterAwake. -/
theorem handshakeAnswered : Obligations.HandshakeAnswered := by
  intro s hr
  refine ⟨fun he => ⟨?_, ?_⟩, fun hw => ?_⟩
  · refine next_whileRunning hr ?_
    rw [takeSleepAccept, if_pos he, goAsleep_eq he]
    dsimp only
    split
    · rfl
    · rw [List.append_nil]
      rfl
  · refine next_whileRunning hr ?_
    rw [takeSleepDecline, if_pos he, enterAwake_eq]
    rfl
  · refine next_whileRunning hr ?_
    rw [takeWakeReady, if_pos hw, enterAwake_eq]
    rfl

/-- Settles O51: each event where it is due. -/
theorem timeAndTimers : Obligations.TimeAndTimers := by
  intro s hr
  refine ⟨next_whileRunning hr rfl, fun level => next_whileRunning hr rfl, fun r hread h => ?_, fun hw => ?_,
    fun g start hh => ⟨fun hs hl h => ?_, fun hs hq hv h => ?_⟩⟩
  · exact next_whileRunning hr (if_pos (deferLimitMet_of_oldest hread h))
  · refine ⟨boundaryWake s, boundaryWake_eq s, next_whileRunning hr ?_⟩
    have hdue : (s.power.windowCountdown == some 0) = true := beq_iff_eq.2 hw
    rw [if_pos hdue, makeStagedCurrent, windowStart_eq, boundaryWake_staged]
    rfl
  · refine next_whileRunning hr ?_
    rw [ageExpiry_due hh (by rw [hs]; exact ranFor_of_elapsed hl h)]
    rfl
  · refine next_whileRunning hr ?_
    rw [quietExpiry_due hh hq (by rw [hs]; exact ranFor_of_elapsed hv h)]
    rfl

end Sys2Proof.Settled

/-! PROOFS. O50: the entry to UNAVAILABLE (R53, R62, R82, R110, R149): each block's refusals as a list of responses, in the
order of the blocks. -/

namespace Sys2Proof.Proofs

open Sys2Proof Sys2Proof.Machine

theorem toList_eq_map_finRange {α : Type} {n : Nat} (v : Vector α n) :
    v.toList = (List.finRange n).map fun i => v[i] := by
  apply List.ext_getElem <;> simp

/-! ## The durable waiters (R53) -/

section Waiters

variable {s : State}

/-- R53: the waiters that an entry to UNAVAILABLE refuses. -/
def heldWaiters (x : Entry) : List Waiter := if x.state = .held then x.waiters else []

/-- R53: a HELD entry's record without its waiters. -/
def withoutWaiters (x : Entry) : Entry := if x.state = .held then { x with waiters := [] } else x

theorem respondAll_setEntries (ws : List Waiter) (r : Response) (v : Vector Entry Config.numEntries) (s : State) :
    respondAll ws r { s with entries := v } = { respondAll ws r s with entries := v } := by
  induction ws generalizing s with
  | nil => rfl
  | cons w ws ih => exact ih (respond w.initiator w.tag r s)

theorem refuseWaiters_eq (s : State) (e : EntryIx) :
    refuseWaiters s e =
      respondAll (heldWaiters s.entries[e]) (.error .unavailable)
        { s with entries := s.entries.set e (withoutWaiters s.entries[e]) } := by
  unfold refuseWaiters heldWaiters withoutWaiters
  dsimp only
  by_cases h : s.entries[e].state = .held
  · have hentries : (respondAll s.entries[e].waiters (.error .unavailable) s).entries =
      s.entries := by rw [respondAll_eq]
    rw [if_pos (beq_iff_eq.2 h), if_pos h, if_pos h]
    refine Eq.trans ?_ (respondAll_setEntries _ _ _ s).symm
    exact congrArg (fun v : Vector Entry Config.numEntries =>
      { respondAll s.entries[e].waiters (.error .unavailable) s with
        entries := v.set e { s.entries[e] with waiters := [] } }) hentries
  · rw [if_neg (mt beq_iff_eq.1 h), if_neg h, if_neg h,
      show s.entries.set e s.entries[e] = s.entries from Vector.set_getElem_self ..]
    rfl

/-- R53: the records once the waiters of the listed entries have been refused. -/
def emptiedAt (l : List EntryIx) (v : Vector Entry Config.numEntries) : Vector Entry Config.numEntries :=
  Vector.ofFn fun e => if e ∈ l then withoutWaiters v[e] else v[e]

theorem emptiedAt_entry (l : List EntryIx) (v : Vector Entry Config.numEntries) (e : EntryIx) :
    (emptiedAt l v)[e] = if e ∈ l then withoutWaiters v[e] else v[e] := by
  rw [emptiedAt, Fin.getElem_fin, Vector.getElem_ofFn]

theorem emptiedAt_cons {e : EntryIx} {l : List EntryIx} (he : e ∉ l) (v : Vector Entry Config.numEntries) :
    emptiedAt l (v.set e (withoutWaiters v[e])) = emptiedAt (e :: l) v := by
  refine ext_fin fun f => ?_
  rw [emptiedAt_entry, emptiedAt_entry, getElem_set_fin]
  by_cases hf : f = e
  · subst hf
    simp [he]
  · simp [hf]

theorem refuseWaiters_fold (l : List EntryIx) (hl : l.Nodup) (s : State) :
    l.foldl refuseWaiters s =
      respondAll (l.flatMap fun e => heldWaiters s.entries[e]) (.error .unavailable)
        { s with entries := emptiedAt l s.entries } := by
  induction l generalizing s with
  | nil =>
    have h : emptiedAt [] s.entries = s.entries := ext_fin fun e => by rw [emptiedAt_entry, if_neg List.not_mem_nil]
    rw [h]
    rfl
  | cons e l ih =>
    obtain ⟨he, hl⟩ := List.nodup_cons.1 hl
    have hentries : (refuseWaiters s e).entries = s.entries.set e (withoutWaiters s.entries[e]) := by
      rw [refuseWaiters_eq, respondAll_eq]
    have hothers : (l.flatMap fun f => heldWaiters (refuseWaiters s e).entries[f]) =
        l.flatMap fun f => heldWaiters s.entries[f] := by
      refine List.flatMap_congr fun f hf => ?_
      have hne : f ≠ e := fun h => he (h ▸ hf)
      rw [show (refuseWaiters s e).entries[f] = s.entries[f] by
        rw [show (refuseWaiters s e).entries[f] = (s.entries.set e (withoutWaiters s.entries[e]))[f] from
          congrArg (fun v : Vector Entry Config.numEntries => v[f]) hentries, getElem_set_fin, if_neg hne]]
    rw [List.foldl_cons, ih hl, hothers, hentries, emptiedAt_cons he, refuseWaiters_eq, ← respondAll_setEntries]
    simp only [respondAll, List.flatMap_cons, List.foldl_append]

theorem refuseAllWaiters_eq (s : State) :
    refuseAllWaiters s =
      respondAll (s.entries.toList.flatMap heldWaiters) (.error .unavailable)
        { s with entries := s.entries.map withoutWaiters } := by
  have hentries : emptiedAt (List.finRange Config.numEntries) s.entries = s.entries.map withoutWaiters :=
    ext_fin fun e => by rw [emptiedAt_entry, if_pos (List.mem_finRange e), getElem_map_fin]
  rw [refuseAllWaiters, refuseWaiters_fold _ (List.nodup_finRange _), hentries, toList_eq_map_finRange,
      List.flatMap_map]

end Waiters

/-! ## The pass-through writes at their heads (R62) -/

section PassHeads

variable {s : State}

/-- R54: the pass-through write that waits at a queue's head. -/
def passing (q : Initiator) : Option Request := if q.head = .passThrough then q.queue.head? else none

/-- R62: what is sent where a waiting pass-through write is refused. -/
def passRefusal (i : InitIx) : Option Request → List UpMessage
  | some r => [.response (BitVec.ofNat 3 i.val) r.tag (.error .unavailable), .credit i]
  | none => []

/-- R62: a queue record once its waiting pass-through write has been refused. -/
def passRefused (q : Initiator) : Initiator :=
  match passing q with
  | some r =>
    { queue := q.queue.tail, head := .undecided, tags := q.tags &&& ~~~(1#16 <<< r.tag.toNat),
        credits := q.credits + 1 }
  | none => q

theorem refusePassHead_eq (s : State) (i : InitIx) :
    refusePassHead s i =
      { s with
        upstreamOut := s.upstreamOut ++ passRefusal i (passing s.initiators[i])
        initiators := s.initiators.set i (passRefused s.initiators[i]) } := by
  have hsame (q : Initiator) (hq : s.initiators[i] = q) : s.initiators.set i q = s.initiators := by
    rw [← hq]
    exact Vector.set_getElem_self ..
  unfold refusePassHead passRefused
  rcases hh : s.initiators[i].head with _ | c | _
  · rw [passing, hh, if_neg nofun, hsame _ rfl, passRefusal, List.append_nil]
  · rw [passing, hh, if_neg nofun, hsame _ rfl, passRefusal, List.append_nil]
  · rcases hq : s.initiators[i].queue with _ | ⟨r, rest⟩
    · rw [passing, hh, hq, if_pos rfl, List.head?_nil]
      dsimp only
      rw [hsame _ rfl, passRefusal, List.append_nil]
    · rw [passing, hh, hq, if_pos rfl]
      dsimp only [List.head?_cons, answerHead, popHead, respond, dropTag, sendUp, setInitiator]
      have hset : ((s.initiators.set i { s.initiators[i] with
          tags := s.initiators[i].tags &&& ~~~(1#16 <<< r.tag.toNat) })[i]) =
          { s.initiators[i] with tags := s.initiators[i].tags &&& ~~~(1#16 <<< r.tag.toNat) } := by
        rw [getElem_set_fin, if_pos rfl]
      rw [hset, Vector.set_set, List.append_assoc, hq]
      rfl

theorem refusePassHead_initiator (s : State) (i j : InitIx) :
    (refusePassHead s i).initiators[j] = if j = i then passRefused s.initiators[j] else s.initiators[j] := by
  have h : (refusePassHead s i).initiators = s.initiators.set i (passRefused s.initiators[i]) := by rw [refusePassHead_eq]
  rw [show (refusePassHead s i).initiators[j] = (s.initiators.set i (passRefused s.initiators[i]))[j] from
    congrArg (fun v : Vector Initiator Config.numInitiators => v[j]) h, getElem_set_fin]
  split
  · next hj => rw [hj]
  · rfl

theorem refusePassHead_fold (l : List InitIx) (hl : l.Nodup) (s : State) :
    l.foldl refusePassHead s =
        { s with
          upstreamOut := s.upstreamOut ++ l.flatMap fun i => passRefusal i (passing s.initiators[i])
          initiators := (l.foldl refusePassHead s).initiators } ∧
      ∀ j : InitIx, (l.foldl refusePassHead s).initiators[j] =
        if j ∈ l then passRefused s.initiators[j] else s.initiators[j] := by
  induction l generalizing s with
  | nil => exact ⟨by rw [List.flatMap_nil, List.append_nil]; rfl, fun j => (if_neg List.not_mem_nil).symm⟩
  | cons i l ih =>
    obtain ⟨hi, hl⟩ := List.nodup_cons.1 hl
    obtain ⟨hframe, hinit⟩ := ih hl (refusePassHead s i)
    have hothers : (l.flatMap fun j => passRefusal j (passing (refusePassHead s i).initiators[j])) =
        l.flatMap fun j => passRefusal j (passing s.initiators[j]) := by
      refine List.flatMap_congr fun j hj => ?_
      have hne : j ≠ i := fun h => hi (h ▸ hj)
      rw [refusePassHead_initiator, if_neg hne]
    rw [List.foldl_cons]
    refine ⟨?_, fun j => ?_⟩
    · rw [hothers] at hframe
      rw [hframe]
      rw [refusePassHead_eq]
      simp only [List.flatMap_cons, List.append_assoc]
    · rw [hinit, refusePassHead_initiator]
      by_cases hj : j = i
      · subst hj
        simp [hi]
      · simp [hj]

theorem refuseAllPassHeads_eq (s : State) :
    refuseAllPassHeads s =
        { s with
          upstreamOut := s.upstreamOut ++ (List.finRange 6).flatMap fun i => passRefusal i (passing s.initiators[i])
          initiators := (refuseAllPassHeads s).initiators } ∧
      ∀ j : InitIx, (refuseAllPassHeads s).initiators[j] = passRefused s.initiators[j] := by
  obtain ⟨hframe, hinit⟩ := refusePassHead_fold _ (List.nodup_finRange Config.numInitiators) s
  refine ⟨hframe, fun j => (hinit j).trans (if_pos (List.mem_finRange j))⟩

end PassHeads

/-! ## The entry (R149) -/

section Entry

variable {s : State}

/-- R149: the state in which the refusals begin. -/
def enteringUnavailable (s : State) : State := setPower { s.power with state := .unavailable, wakeTimer := none } s

theorem refuseAllReads_eq (s : State) :
    refuseAllReads s =
        { s with
          reads := []
          upstreamOut := s.upstreamOut ++ s.reads.map fun r =>
            .response (BitVec.ofNat 3 r.initiator.val) r.tag (.error .unavailable)
          initiators := (refuseAllReads s).initiators } ∧
      ∀ i : InitIx, (refuseAllReads s).initiators[i] =
          { s.initiators[i] with tags := (refuseAllReads s).initiators[i].tags } ∧
        ∀ n : UpTag, (refuseAllReads s).initiators[i].tags.getLsbD n.toNat =
          (s.initiators[i].tags.getLsbD n.toNat && !(s.reads.any fun r => r.initiator == i && r.tag == n)) :=
  ⟨(refuseRead_answering .unavailable).fold_eq s.reads { s with reads := [] },
    (refuseRead_answering .unavailable).fold_initiator s.reads { s with reads := [] }⟩

theorem refuseAllReads_drains (s : State) : (refuseAllReads s).drains = s.drains := by rw [(refuseAllReads_eq s).1]

theorem refuseAllDrains_eq (s : State) :
    refuseAllDrains s =
        { s with
          drains := []
          upstreamOut := s.upstreamOut ++ s.drains.map fun d =>
            .response (BitVec.ofNat 3 d.initiator.val) d.tag (.error .unavailable)
          initiators := (refuseAllDrains s).initiators } ∧
      ∀ i : InitIx, (refuseAllDrains s).initiators[i] =
          { s.initiators[i] with tags := (refuseAllDrains s).initiators[i].tags } ∧
        ∀ n : UpTag, (refuseAllDrains s).initiators[i].tags.getLsbD n.toNat =
          (s.initiators[i].tags.getLsbD n.toNat && !(s.drains.any fun d => d.initiator == i && d.tag == n)) :=
  ⟨refuseDrain_answering.fold_eq s.drains { s with drains := [] },
    refuseDrain_answering.fold_initiator s.drains { s with drains := [] }⟩

theorem heldWaiters_any (i : InitIx) (n : UpTag) (x : Entry) :
    ((heldWaiters x).any fun w => w.initiator == i && w.tag == n) =
      (x.state == .held && x.waiters.any fun w => w.initiator == i && w.tag == n) := by
  unfold heldWaiters
  by_cases h : x.state = .held
  · rw [if_pos h, beq_iff_eq.2 h, Bool.true_and]
  · rw [if_neg h, beq_eq_false_iff_ne.2 h]
    rfl

theorem refuseAllWaiters_frame (s : State) :
    refuseAllWaiters s =
        { s with
          entries := s.entries.map withoutWaiters
          upstreamOut := s.upstreamOut ++ answersTo (s.entries.toList.flatMap heldWaiters) (.error .unavailable)
          initiators := (refuseAllWaiters s).initiators } ∧
      ∀ i : InitIx, (refuseAllWaiters s).initiators[i] =
          { s.initiators[i] with tags := (refuseAllWaiters s).initiators[i].tags } ∧
        ∀ n : UpTag, (refuseAllWaiters s).initiators[i].tags.getLsbD n.toNat =
          (s.initiators[i].tags.getLsbD n.toNat &&
            !(s.entries.any fun x => x.state == .held && x.waiters.any fun w => w.initiator == i && w.tag == n)) := by
  refine ⟨?_, fun i => ?_⟩
  · conv_rhs => rw [refuseAllWaiters_eq]
    rw [refuseAllWaiters_eq, respondAll_eq]
  · have h := respondAll_initiator (s.entries.toList.flatMap heldWaiters) (.error .unavailable)
      { s with entries := s.entries.map withoutWaiters } i
    rw [← refuseAllWaiters_eq] at h
    simp only [List.any_flatMap, heldWaiters_any, Vector.any_toList] at h
    exact h

/-- The tags that the refusals take from initiator i's outstanding set before its head is reached. -/
def tagRefused (s : State) (i : InitIx) (n : UpTag) : Bool :=
  (s.entries.any fun x => x.state == .held && x.waiters.any fun w => w.initiator == i && w.tag == n) ||
    (s.reads.any fun r => r.initiator == i && r.tag == n) || (s.drains.any fun d => d.initiator == i && d.tag == n)

/-- R53, R82, R110: the state once the first three blocks have refused. -/
def refusedRecords (s : State) : State := refuseAllDrains (refuseAllReads (refuseAllWaiters s))

theorem refusedRecords_eq (s : State) :
    refusedRecords s =
        { s with
          entries := s.entries.map withoutWaiters
          reads := [], drains := []
          upstreamOut := s.upstreamOut ++ answersTo (s.entries.toList.flatMap heldWaiters) (.error .unavailable) ++
            (s.reads.map fun r => .response (BitVec.ofNat 3 r.initiator.val) r.tag (.error .unavailable)) ++
            (s.drains.map fun d => .response (BitVec.ofNat 3 d.initiator.val) d.tag (.error .unavailable))
          initiators := (refusedRecords s).initiators } ∧
      ∀ i : InitIx, (refusedRecords s).initiators[i] =
          { s.initiators[i] with tags := (refusedRecords s).initiators[i].tags } ∧
        ∀ n : UpTag, (refusedRecords s).initiators[i].tags.getLsbD n.toNat =
          (s.initiators[i].tags.getLsbD n.toNat && !tagRefused s i n) := by
  obtain ⟨hw, hwi⟩ := refuseAllWaiters_frame s
  obtain ⟨hr, hri⟩ := refuseAllReads_eq (refuseAllWaiters s)
  obtain ⟨hd, hdi⟩ := refuseAllDrains_eq (refuseAllReads (refuseAllWaiters s))
  have hreads : (refuseAllWaiters s).reads = s.reads := by rw [refuseAllWaiters_eq, respondAll_eq]
  have hdrains : (refuseAllReads (refuseAllWaiters s)).drains = s.drains := by
    rw [refuseAllReads_drains, refuseAllWaiters_eq, respondAll_eq]
  refine ⟨?_, fun i => ⟨?_, fun n => ?_⟩⟩
  · rw [hdrains] at hd
    rw [hreads] at hr
    unfold refusedRecords
    refine hd.trans ?_
    generalize (refuseAllDrains (refuseAllReads (refuseAllWaiters s))).initiators = u
    generalize (refuseAllReads (refuseAllWaiters s)).initiators = v at hr
    rw [hr]
    generalize (refuseAllWaiters s).initiators = w at hw
    rw [hw]
  · obtain ⟨hwr, -⟩ := hwi i
    obtain ⟨hrr, -⟩ := hri i
    obtain ⟨hdr, -⟩ := hdi i
    rw [hrr, hwr] at hdr
    exact hdr
  · rw [refusedRecords, (hdi i).2, (hri i).2, (hwi i).2, hreads, hdrains, tagRefused]
    simp only [Bool.not_or, Bool.and_assoc]

/-- R149: the state once all four blocks have refused what waits on the memory. -/
def refusedAll (s : State) : State := refuseAllPassHeads (refusedRecords s)

theorem passing_setTags (q : Initiator) (tags : BitVec 16) : passing { q with tags := tags } = passing q := rfl

theorem refusedAll_eq (s : State) :
    refusedAll s =
        { s with
          entries := s.entries.map withoutWaiters
          reads := [], drains := []
          upstreamOut := s.upstreamOut ++ answersTo (s.entries.toList.flatMap heldWaiters) (.error .unavailable) ++
            (s.reads.map fun r => .response (BitVec.ofNat 3 r.initiator.val) r.tag (.error .unavailable)) ++
            (s.drains.map fun d => .response (BitVec.ofNat 3 d.initiator.val) d.tag (.error .unavailable)) ++
            (List.finRange 6).flatMap fun i => passRefusal i (passing s.initiators[i])
          initiators := (refusedAll s).initiators } ∧
      ∀ i : InitIx, ∃ tags : BitVec 16, (refusedAll s).initiators[i] =
          passRefused { s.initiators[i] with tags := tags } ∧
        ∀ n : UpTag, tags.getLsbD n.toNat = (s.initiators[i].tags.getLsbD n.toNat && !tagRefused s i n) := by
  obtain ⟨hr, hri⟩ := refusedRecords_eq s
  obtain ⟨hp, hpi⟩ := refuseAllPassHeads_eq (refusedRecords s)
  have hpassing (i : InitIx) : passing (refusedRecords s).initiators[i] = passing s.initiators[i] := by
    rw [(hri i).1, passing_setTags]
  refine ⟨?_, fun i => ⟨_, ?_, (hri i).2⟩⟩
  · simp only [hpassing] at hp
    unfold refusedAll
    refine hp.trans ?_
    generalize (refuseAllPassHeads (refusedRecords s)).initiators = u
    generalize (refusedRecords s).initiators = v at hr
    rw [hr]
  · rw [refusedAll, hpi, ← (hri i).1]

theorem refusedAll_power (s : State) : (refusedAll s).power = s.power := by
  unfold refusedAll refusedRecords
  exact refuseAll_power s

theorem answersTo_heldWaiters (l : List Entry) (r : Response) :
    answersTo (l.flatMap heldWaiters) r =
      l.flatMap fun x =>
        if x.state = .held then x.waiters.map fun w => .response (BitVec.ofNat 3 w.initiator.val) w.tag r else [] := by
  rw [answersTo, List.map_flatMap]
  refine congrArg (List.flatMap · l) (funext fun x => ?_)
  unfold heldWaiters
  split <;> rfl

/-- R139, R145: in UNAVAILABLE the tests take no wake cause, and the sleep countdown is stopped. -/
theorem settle_of_unavailable {u : State} (h : u.power.state = .unavailable) :
    settle u =
      { u with
        pressure := testedPressure u, initiators := u.initiators.map (endWait u)
        power := { u.power with sleepCountdown := none } } := by
  have hwoken : pressureWoken u = u := by
    rcases pressureWoken_cases u with hw | hw
    · exact hw
    · exact hw.trans (takeWake_of_ignored (by rw [h]; exact nofun) (by rw [h]; exact nofun))
  have hstopped : settledCountdown u = none := by
    refine if_neg ?_
    rw [countdownRuns_of_not_awake]
    · exact nofun
    · rw [tested_frame, hwoken]
      show u.power.state ≠ .awake
      rw [h]
      exact nofun
  rw [settle_frame, hwoken, hstopped]

end Entry

/-! ## A queue record at the entry (R60, R62, R149) -/

section Queue

theorem passRefused_rest (q : Initiator) :
    (passRefused q).queue = (if (passing q).isSome then q.queue.tail else q.queue) ∧
      (passRefused q).credits = (if (passing q).isSome then q.credits + 1 else q.credits) ∧
      ((passing q).isSome → (passRefused q).head = .undecided) ∧ (passing q = none → passRefused q = q) := by
  unfold passRefused
  rcases hp : passing q with _ | r
  · exact ⟨rfl, rfl, nofun, fun _ => rfl⟩
  · exact ⟨rfl, rfl, fun _ => rfl, nofun⟩

theorem passRefused_tag (q : Initiator) (n : UpTag) :
    (passRefused q).tags.getLsbD n.toNat = (q.tags.getLsbD n.toNat && !(passing q).any fun r => r.tag == n) := by
  unfold passRefused
  rcases hp : passing q with _ | r
  · simp
  · rw [getLsbD_dropped, Option.any_some]
    congr 2
    rw [Bool.eq_iff_iff, decide_eq_true_iff, beq_iff_eq]
    exact eq_comm

theorem endStall_rest (q : Initiator) :
    (endStall q).queue = q.queue ∧ (endStall q).tags = q.tags ∧ (endStall q).credits = q.credits := by
  rw [endStall_eq]
  exact ⟨rfl, rfl, rfl⟩

theorem endWait_of_undecided (s : State) {q : Initiator} (h : q.head = .undecided) : endWait s q = q := by
  unfold endWait
  rw [h]

/-- R60: a head that waits is to be decided again where its wait is over. -/
theorem endWait_head_eq (s : State) (q : Initiator) :
    (endWait s q).head =
      match q.queue, q.head with
      | r :: _, .waiting c => if waitOver s r c then .undecided else .waiting c
      | _, h => h := by
  unfold endWait
  rcases hh : q.head with _ | c | _
  · rcases q.queue <;> exact hh
  · rcases q.queue with _ | ⟨r, rest⟩
    · exact hh
    · dsimp only
      split
      · rfl
      · exact hh
  · rcases q.queue <;> exact hh

end Queue

end Sys2Proof.Proofs

namespace Sys2Proof.Settled

open Sys2Proof Sys2Proof.Machine Sys2Proof.Proofs

/-- Settles O50: below attempt 3 a wake attempt, else the refusals (`refusedAll_eq`) and the tests. -/
theorem wakeTimerExpires : Obligations.WakeTimerExpires := by
  intro s hr hw ht
  have hdue : wakeTimerDue s = true := by simp [wakeTimerDue, hw, ht]
  refine ⟨fun h => next_whileRunning hr ?_, fun h => ?_⟩
  · rw [if_pos hdue, wakeTimeout, if_pos h, wakeAttempt]
    rw [← hw]
    rfl
  · obtain ⟨hframe, hinit⟩ := refusedAll_eq (enteringUnavailable s)
    have hexpiry : (if wakeTimerDue s then wakeTimeout s else s) =
        settle (endStalls (refusedAll (enteringUnavailable s))) := by
      rw [if_pos hdue, wakeTimeout, if_neg (Nat.not_lt.2 h)]
      rfl
    have hpower := refusedAll_power (enteringUnavailable s)
    generalize refusedAll (enteringUnavailable s) = u at hframe hinit hexpiry hpower
    refine ⟨settle (endStalls u), next_whileRunning hr hexpiry, ?_, settle_testsTaken _, fun i => ?_⟩
    · have hstate : (endStalls u).power.state = .unavailable := congrArg Power.state hpower
      rw [settle_initiators, settle_pressure, settle_of_unavailable hstate]
      generalize testedPressure (endStalls u) = pressure
      generalize (endStalls u).initiators.map _ = initiators
      generalize u.initiators = before at hframe
      rw [answersTo_heldWaiters] at hframe
      rw [hframe]
      rfl
    · obtain ⟨tags, hi, htags⟩ := hinit i
      have hq : (settle (endStalls u)).initiators[i] =
          endWait (endStalls u) (endStall (passRefused { s.initiators[i] with tags := tags })) := by
        rw [settle_initiator, endStalls_initiator, hi]
        rfl
      obtain ⟨hqueue, hcredits, hhead, hsame⟩ := passRefused_rest { s.initiators[i] with tags := tags }
      obtain ⟨squeue, stags, scredits⟩ := endStall_rest (passRefused { s.initiators[i] with tags := tags })
      obtain ⟨wqueue, wtags, wcredits⟩ := endWait_rest (endStalls u)
        (endStall (passRefused { s.initiators[i] with tags := tags }))
      rw [hq]
      refine ⟨?_, ?_, fun hleft => ?_, fun hnone hstall => ?_, fun n => ?_⟩
      · rw [wqueue, squeue, hqueue]
        rfl
      · rw [wcredits, scredits, hcredits]
        rfl
      · have hundecided : (endStall (passRefused { s.initiators[i] with tags := tags })).head = .undecided := by
          rw [endStall_eq]
          by_cases hp : (passing { s.initiators[i] with tags := tags }).isSome = true
          · rw [hhead hp]
            rfl
          · rcases hleft with hsome | hstall
            · exact absurd hsome hp
            · rw [hsame (Option.not_isSome_iff_eq_none.1 hp)]
              exact if_pos hstall
        rw [endWait_of_undecided _ hundecided, hundecided]
      · rw [hsame hnone, endStall_eq, endWait_head_eq]
        simp only [settle_waitOver]
        rw [if_neg hstall] <;> rfl
      · rw [wtags, stags, passRefused_tag, htags, Bool.and_assoc, ← Bool.not_or]
        rfl

end Sys2Proof.Settled

/-! PROOFS. O18: bytes and numbers (R197), the bytes of frames and the commands they spell (10.4). -/

namespace Sys2Proof.Proofs

open Sys2Proof Sys2Proof.Machine Sys2Proof.Laws.FrameOfLength

/-! ## Numbers as bytes (R197) -/

section Bytes

theorem natBE_append (bs : List Byte) (b : Byte) : natBE (bs ++ [b]) = natBE bs * 256 + b.toNat := by
  simp [natBE, List.foldl_append]

theorem natBE_bytesBE_mod (n v : Nat) : natBE (bytesBE n v) = v % 256 ^ n := by
  induction n generalizing v with
  | zero => exact (Nat.mod_one v).symm
  | succ n ih =>
    have hpow : 256 ^ (n + 1) = 256 * 256 ^ n := Nat.pow_succ'
    rw [bytesBE, natBE_append, ih, BitVec.toNat_ofNat, hpow, Nat.mod_mul]
    omega

/-- R197: a number that fits is carried by its bytes. -/
theorem natBE_bytesBE {n v : Nat} (h : v < 256 ^ n) : natBE (bytesBE n v) = v := by
  rw [natBE_bytesBE_mod, Nat.mod_eq_of_lt h]

theorem bytesBE_natBE (bs : List Byte) : bytesBE bs.length (natBE bs) = bs := by
  induction bs using List.reverseRecOn with
  | nil => rfl
  | append_singleton bs b ih =>
    have hb : b.toNat < 256 := b.isLt
    have hdiv : (natBE bs * 256 + b.toNat) / 256 = natBE bs := by omega
    have hlow : BitVec.ofNat 8 (natBE bs * 256 + b.toNat) = b := by
      apply BitVec.eq_of_toNat_eq
      rw [BitVec.toNat_ofNat]
      omega
    rw [List.length_append, List.length_singleton, natBE_append, bytesBE, hdiv, hlow, ih]

theorem natBE_lt (bs : List Byte) : natBE bs < 256 ^ bs.length := by
  conv_lhs => rw [← bytesBE_natBE bs]
  rw [natBE_bytesBE_mod]
  exact Nat.mod_lt _ (Nat.pow_pos (by decide))

/-- R197: a word of w bits in the bytes that hold it. -/
theorem ofNat_natBE_bytesBE {w : Nat} (n : Nat) (hw : w = 8 * n) (x : BitVec w) :
    BitVec.ofNat w (natBE (bytesBE n x.toNat)) = x := by
  have hpow : 2 ^ w = 256 ^ n := by rw [hw, Nat.pow_mul]
  have hx : x.toNat < 256 ^ n := Nat.lt_of_lt_of_eq x.isLt hpow
  rw [natBE_bytesBE hx, BitVec.ofNat_toNat, BitVec.setWidth_eq]

theorem bytesBE_ofNat_natBE {w : Nat} (bs : List Byte) (hw : w = 8 * bs.length) :
    bytesBE bs.length (BitVec.ofNat w (natBE bs)).toNat = bs := by
  have hlt : natBE bs < 2 ^ w := by
    rw [hw, Nat.pow_mul]
    exact natBE_lt bs
  rw [BitVec.toNat_ofNat, Nat.mod_eq_of_lt hlt, bytesBE_natBE]

end Bytes

/-! ## Commands and registers by their bytes (10.4, 9.6) -/

section Names

variable {b n : Byte} {m : CommandName} {r : Register}

theorem commandOfByte_eq_some_iff : commandOfByte b = some m ↔ commandByte m = b := by
  constructor
  · intro h
    exact beq_iff_eq.1 (List.find?_some (p := fun c => commandByte c == b) h)
  · rintro rfl
    exact commandOfByte_commandByte m

theorem commandOfByte_eq_none_iff : commandOfByte b = none ↔ ∀ m : CommandName, commandByte m ≠ b := by
  constructor
  · intro h m hm
    rw [commandOfByte_eq_some_iff.2 hm] at h
    cases h
  · intro h
    rcases hb : commandOfByte b with _ | m
    · rfl
    · exact absurd (commandOfByte_eq_some_iff.1 hb) (h m)

theorem registerNumber_lt (r : Register) : registerNumber r < 256 := by
  cases r
  case ageLimit g | relMode g | relValue g | lineLimit g | companions g =>
    have hg : g.val < 4 := g.isLt
    simp only [registerNumber]
    omega
  all_goals decide

theorem toNat_registerNumber (r : Register) : (BitVec.ofNat 8 (registerNumber r)).toNat = registerNumber r := by
  rw [BitVec.toNat_ofNat, Nat.mod_eq_of_lt (registerNumber_lt r)]

/-- 9.6: a register's number names it. -/
theorem registerOfNumber_registerNumber (r : Register) :
    registerOfNumber (BitVec.ofNat 8 (registerNumber r)) = some r := by
  cases r
  case ageLimit g => revert g; decide
  case relMode g => revert g; decide
  case relValue g => revert g; decide
  case lineLimit g => revert g; decide
  case companions g => revert g; decide
  all_goals decide

theorem registerOfNumber_eq_some_iff : registerOfNumber n = some r ↔ registerNumber r = n.toNat := by
  constructor
  · intro h
    exact beq_iff_eq.1 (List.find?_some (p := fun r => registerNumber r == n.toNat) h)
  · intro h
    have hn : n = BitVec.ofNat 8 (registerNumber r) := by rw [h, BitVec.ofNat_toNat, BitVec.setWidth_eq]
    rw [hn, registerOfNumber_registerNumber]

theorem registerOfNumber_eq_none_iff : registerOfNumber n = none ↔ ∀ r : Register, registerNumber r ≠ n.toNat := by
  constructor
  · intro h r hr
    rw [registerOfNumber_eq_some_iff.2 hr] at h
    cases h
  · intro h
    rcases hn : registerOfNumber n with _ | r
    · rfl
    · exact absurd (registerOfNumber_eq_some_iff.1 hn) (h r)

theorem registerWriteArgs_eq (h : registerNumber r = n.toNat) (v : BitVec 32) :
    registerWriteArgs r v = writeArgs n v := by
  rw [registerWriteArgs, h, BitVec.ofNat_toNat, BitVec.setWidth_eq]

/-- A write of register number n is a command, and its frame is that of WRITE_REG. -/
theorem writeCommand_frame (n : Byte) (v : BitVec 32) :
    (writeCommand n v).wf = true ∧ frameOf (writeCommand n v) = some (commandByte .writeReg, writeArgs n v) := by
  have hown (h : writeCommand n v = .writeReg n v) : (writeCommand n v).wf = true ∧
      frameOf (writeCommand n v) = some (commandByte .writeReg, writeArgs n v) := by
    rw [h]
    exact ⟨beq_iff_eq.2 h, rfl⟩
  rcases hr : registerOfNumber n with _ | r
  · exact hown (by rw [writeCommand, hr])
  · have hargs := registerWriteArgs_eq (registerOfNumber_eq_some_iff.1 hr) v
    cases r
    case id | rdRetry | wrRetry | wakeLimit | attnStatus | wakes | sleeps | fullHits | throughWrites | retries |
        discardedLines | resetRecord => exact hown (by rw [writeCommand, hr])
    all_goals
      rw [writeCommand, hr, ← hargs]
      exact ⟨rfl, rfl⟩

end Names

/-! ## Frames and commands (10.4) -/

section Frames

variable {c : Instr} {b : Byte} {args : List Byte}

theorem decodeFrame_write (n : Byte) (v : BitVec 32) :
    decodeFrame (commandByte .writeReg) (writeArgs n v) = some (writeCommand n v) := by
  have hv := ofNat_natBE_bytesBE 4 rfl v
  delta decodeFrame
  rw [commandOfByte_commandByte]
  exact congrArg (fun x => some (writeCommand n x)) hv

/-- A register's own row is the write of its number. -/
theorem decodeFrame_registerWrite {r : Register} {v : BitVec 32} (h : writeCommand (BitVec.ofNat 8 (registerNumber r)) v = c) :
    decodeFrame (commandByte .writeReg) (registerWriteArgs r v) = some c := by
  rw [registerWriteArgs, decodeFrame_write, h]

/-- 10.4: the bytes of a command's frame spell the command. -/
theorem decodeFrame_of_frameOf (hwf : c.wf = true) (h : frameOf c = some (b, args)) : decodeFrame b args = some c := by
  cases c
  case unknownCommand x =>
    cases h
    delta decodeFrame
    rw [Option.isNone_iff_eq_none.1 hwf]
  case writeReg n v =>
    cases h
    rw [decodeFrame_write, beq_iff_eq.1 hwf]
  case tickDiv | fullPolicy | deferLimit | deferCount | creditLimit | respLimit | highMark | lowMark | oppMark |
      sleepDelay | windowPeriod | attnEnable | ageLimit | relMode | relValue | lineLimit | companions =>
    cases h
    exact decodeFrame_registerWrite (by rw [writeCommand, registerOfNumber_registerNumber])
  case ack x =>
    cases h
    delta decodeFrame
    rw [commandOfByte_commandByte]
    exact congrArg (fun x => some (Instr.ack x)) (ofNat_natBE_bytesBE 2 rfl x)
  case regionWrite k x =>
    cases h
    delta decodeFrame
    rw [commandOfByte_commandByte]
    exact congrArg (fun x => some (Instr.regionWrite k x)) (ofNat_natBE_bytesBE 8 rfl x)
  case readReg | take | regionRead | groupOpen | groupClose | groupReset | release | wake | cycle | recover | faultRead |
      faultRetry | faultDiscard | entryPeek | status | clearCounters | clear =>
    cases h
    delta decodeFrame
    rw [commandOfByte_commandByte]
  all_goals cases h

/-- 10.4: what a frame spells is a command with that frame. -/
theorem frameOf_of_decodeFrame (h : decodeFrame b args = some c) : c.wf = true ∧ frameOf c = some (b, args) := by
  delta decodeFrame at h
  rcases hb : commandOfByte b with _ | m
  · rw [hb] at h
    rcases args with _ | ⟨x, l⟩
    · cases h
      exact ⟨Option.isNone_iff_eq_none.2 hb, rfl⟩
    · cases h
  · rw [hb] at h
    obtain rfl := commandOfByte_eq_some_iff.1 hb
    cases m
    case take | wake | cycle | recover | status | clearCounters | clear =>
      rcases args with _ | ⟨x, l⟩
      · cases h
        exact ⟨rfl, rfl⟩
      · cases h
    case ack =>
      rcases args with _ | ⟨x, _ | ⟨y, _ | ⟨z, l⟩⟩⟩
      · cases h
      · cases h
      · cases h
        exact ⟨rfl, congrArg (fun l => some (commandByte .ack, l)) (bytesBE_ofNat_natBE [x, y] rfl)⟩
      · cases h
    case writeReg =>
      rcases args with _ | ⟨n, _ | ⟨v3, _ | ⟨v2, _ | ⟨v1, _ | ⟨v0, _ | ⟨z, l⟩⟩⟩⟩⟩⟩
      case cons.cons.cons.cons.cons.nil =>
        cases h
        obtain ⟨hwf, hf⟩ := writeCommand_frame n (BitVec.ofNat 32 (natBE [v3, v2, v1, v0]))
        have hbytes : bytesBE 4 (BitVec.ofNat 32 (natBE [v3, v2, v1, v0])).toNat = [v3, v2, v1, v0] :=
          bytesBE_ofNat_natBE [v3, v2, v1, v0] rfl
        rw [writeArgs, hbytes] at hf
        exact ⟨hwf, hf⟩
      all_goals cases h
    case regionWrite =>
      rcases args with _ | ⟨i, _ | ⟨e7, _ | ⟨e6, _ | ⟨e5, _ |
          ⟨e4, _ | ⟨e3, _ | ⟨e2, _ | ⟨e1, _ | ⟨e0, _ | ⟨z, l⟩⟩⟩⟩⟩⟩⟩⟩⟩⟩
      case cons.cons.cons.cons.cons.cons.cons.cons.cons.nil =>
        cases h
        exact ⟨rfl, congrArg (fun l => some (commandByte .regionWrite, i :: l))
          (bytesBE_ofNat_natBE [e7, e6, e5, e4, e3, e2, e1, e0] rfl)⟩
      all_goals cases h
    all_goals
      rcases args with _ | ⟨x, _ | ⟨y, l⟩⟩
      · cases h
      · cases h
        exact ⟨rfl, rfl⟩
      · cases h

end Frames

end Sys2Proof.Proofs

namespace Sys2Proof.Settled

open Sys2Proof Sys2Proof.Machine Sys2Proof.Proofs

/-- Settles O18: one way per direction. -/
theorem framesSpellTheirCommands : Obligations.FramesSpellTheirCommands := by
  intro c b args
  exact ⟨fun ⟨hwf, h⟩ => decodeFrame_of_frameOf hwf h, frameOf_of_decodeFrame⟩

end Sys2Proof.Settled

/-! PROOFS. O56: the attention status and its commands (chapter 8). -/

namespace Sys2Proof.Proofs

open Sys2Proof Sys2Proof.Machine

section Attention

variable {s : State}

/-- R166: a level cause reads as set while its condition holds. -/
theorem levelSet_eq {c : LevelCause} {P : Prop} [Decidable P] (h : levelHolds s c = true ↔ P) :
    levelSet s c = if P then levelValue c else 0 := by
  unfold levelSet
  by_cases hp : P
  · rw [if_pos (h.2 hp), if_pos hp]
  · rw [if_neg (mt h.1 hp), if_neg hp]

/-- R132: no slot is BUSY and the QUARANTINED ones reach the credit limit. -/
theorem tagsStuck_iff :
    tagsStuck s = true ↔
      (∀ k : TagIx, s.slots[k].isBusy = false) ∧ s.regs.creditLimit.toNat ≤ s.slots.countP Slot.isQuarantined := by
  have hnone : busySlots s = 0 ↔ ∀ k : TagIx, s.slots[k].isBusy = false := by
    simp only [busySlots, Vector.countP_eq_zero, Vector.mem_iff_getElem, Bool.not_eq_true]
    exact ⟨fun h k => h _ ⟨k, k.isLt, rfl⟩, fun h x ⟨j, hj, hx⟩ => hx ▸ h ⟨j, hj⟩⟩
  rw [tagsStuck, Bool.and_eq_true, beq_iff_eq, decide_eq_true_iff, hnone]
  rfl

theorem attention_eq (s : State) :
    attention s = s.events ||| (if 6 ≤ s.faultOrder.length then 0x0002 else 0) |||
      (if s.power.state = .unavailable then 0x0010 else 0) |||
      (if (∀ k : TagIx, s.slots[k].isBusy = false) ∧
          s.regs.creditLimit.toNat ≤ s.slots.countP Slot.isQuarantined then 0x0080 else 0) := by
  rw [attention, levelSet_eq (c := .releaseHalted) (halted_iff s), levelSet_eq (c := .unavailable) unavailable_iff,
    levelSet_eq (c := .tagsStuck) tagsStuck_iff]
  rfl

/-- Two words share a set bit. -/
theorem and_ne_zero_iff (x y : BitVec 16) :
    (x &&& y != 0) = true ↔ ∃ n : Fin 16, x.getLsbD n.val = true ∧ y.getLsbD n.val = true := by
  rw [bne_iff_ne]
  constructor
  · intro h
    by_contra hno
    refine h (BitVec.eq_of_getLsbD_eq fun i hi => ?_)
    show (x &&& y).getLsbD i = (0#16).getLsbD i
    rw [BitVec.getLsbD_and, BitVec.getLsbD_zero]
    rcases hx : x.getLsbD i with _ | _
    · rfl
    · rcases hy : y.getLsbD i with _ | _
      · rfl
      · exact absurd ⟨⟨i, hi⟩, hx, hy⟩ hno
  · rintro ⟨n, hx, hy⟩ h
    have hn : (x &&& y).getLsbD n.val = (0#16).getLsbD n.val := congrArg (fun z : BitVec 16 => z.getLsbD n.val) h
    rw [BitVec.getLsbD_and, hx, hy, BitVec.getLsbD_zero] at hn
    cases hn

/-- 10.5: the values 2^13 to 2^15 are those at and above 2^13. -/
theorem namesNonCause_iff (v : BitVec 16) : namesNonCause v = true ↔ 2 ^ 13 ≤ v.toNat := by
  have hhighest : ∀ n : Fin 16, (0xE000 : BitVec 16).getLsbD n.val = true ↔ 13 ≤ n.val := by decide
  rw [namesNonCause, and_ne_zero_iff]
  constructor
  · rintro ⟨n, hv, hn⟩
    by_contra hlt
    have hhigh : 13 ≤ n.val := (hhighest n).1 hn
    have hfalse : v.toNat.testBit n.val = false :=
      Nat.testBit_lt_two_pow (Nat.lt_of_lt_of_le (Nat.not_le.1 hlt) (Nat.pow_le_pow_right (by decide) hhigh))
    rw [BitVec.getLsbD, hfalse] at hv
    cases hv
  · intro h
    by_contra hno
    refine Nat.not_lt.2 h (Nat.lt_pow_two_of_testBit _ fun i hi => ?_)
    rcases Nat.lt_or_ge i 16 with hlt | hge
    · have hbit : (0xE000 : BitVec 16).getLsbD i = true := (hhighest ⟨i, hlt⟩).2 hi
      rcases hv : v.getLsbD i with _ | _
      · exact hv
      · exact absurd ⟨⟨i, hlt⟩, hv, hbit⟩ hno
    · exact Nat.testBit_lt_two_pow (Nat.lt_of_lt_of_le v.isLt (Nat.pow_le_pow_right (by decide) hge))

/-- R197: a word of two bytes, the upper byte first. -/
theorem bytesBE_two (x : BitVec 16) : ∃ hi lo : Byte, hi ++ lo = x ∧ bytesBE 2 x.toNat = [hi, lo] := by
  refine ⟨BitVec.ofNat 8 (x.toNat / 256), BitVec.ofNat 8 x.toNat, ?_, rfl⟩
  apply BitVec.eq_of_toNat_eq
  have hx := x.isLt
  have hlow : x.toNat % 2 ^ 8 < 2 ^ 8 := Nat.mod_lt _ (by decide)
  rw [BitVec.toNat_append, BitVec.toNat_ofNat, BitVec.toNat_ofNat, ← Nat.shiftLeft_add_eq_or_of_lt hlow,
    Nat.shiftLeft_eq]
  omega

end Attention

end Sys2Proof.Proofs

namespace Sys2Proof.Settled

open Sys2Proof Sys2Proof.Machine Sys2Proof.Proofs

/-- Settles O56: each level cause by its condition, and the three commands as they are judged. -/
theorem attentionServed : Obligations.AttentionServed := by
  intro s
  refine ⟨attention_eq s, ?_, fun ht => ⟨?_, fun v => ⟨fun h => ?_, fun h => ?_⟩, ?_⟩⟩
  · rw [attnLow, Bool.and_eq_true, beq_iff_eq, and_ne_zero_iff]
  · obtain ⟨hi, lo, happend, hbytes⟩ := bytesBE_two (attention s)
    have hanswer : Answers .take s .ok (bytesBE 2 (attention s).toNat) { s with events := 0 } :=
      answers_judged (c := .take) (n := .take) (args := []) (judge := judgeTake) ht rfl rfl
    rw [hbytes] at hanswer
    exact ⟨hi, lo, happend, hanswer⟩
  · exact answers_denied (n := .ack) ht rfl rfl (if_pos ((namesNonCause_iff v).2 h)) nofun
  · exact answers_ok (n := .ack) ht rfl rfl (if_neg (mt (namesNonCause_iff v).1 (Nat.not_le.2 h)))
  · exact answers_ok (n := .clearCounters) ht rfl rfl rfl

end Sys2Proof.Settled

/-! PROOFS. O57: the arguments of management commands, and the region entry's layout read and written (10.5, R37, R199). -/

namespace Sys2Proof.Proofs

open Sys2Proof Sys2Proof.Machine Sys2Proof.Laws

/-! ## Arguments in range (R177, R179) -/

section Args

variable {b : Byte}

theorem regionArg_eq {k : RegionIx} (h : b.toNat = k.val) : regionArg b = some k := by
  have hlt : b.toNat < Config.numRegions := h ▸ k.isLt
  rw [regionArg, dif_pos hlt]
  exact congrArg some (Fin.ext h)

theorem regionArg_none (h : 12 ≤ b.toNat) : regionArg b = none := dif_neg (Nat.not_lt.2 h)

theorem groupArg_eq {g : GroupIx} (h : b.toNat = g.val) : groupArg b = some g := by
  have hlt : b.toNat < Config.numGroups := h ▸ g.isLt
  rw [groupArg, dif_pos hlt]
  exact congrArg some (Fin.ext h)

theorem groupArg_none (h : 4 ≤ b.toNat) : groupArg b = none := dif_neg (Nat.not_lt.2 h)

theorem entryArg_eq {e : EntryIx} (h : b.toNat = e.val) : entryArg b = some e := by
  have hlt : b.toNat < Config.numEntries := h ▸ e.isLt
  rw [entryArg, dif_pos hlt]
  exact congrArg some (Fin.ext h)

theorem entryArg_none (h : 48 ≤ b.toNat) : entryArg b = none := dif_neg (Nat.not_lt.2 h)

theorem faultArg_eq {k : FaultIx} (h : b.toNat = k.val) : faultArg b = some k := by
  have hlt : b.toNat < Config.numFaults := h ▸ k.isLt
  rw [faultArg, dif_pos hlt]
  exact congrArg some (Fin.ext h)

theorem faultArg_none (h : 6 ≤ b.toNat) : faultArg b = none := dif_neg (Nat.not_lt.2 h)

end Args

/-! ## What an entry's bytes hold (R37, R199) -/

section Fields

variable {x : BitVec 64} {f : RegionFields} {y : Region}

theorem readClassOf_eq_none_iff (c : BitVec 2) : readClassOf c = none ↔ 2 ≤ c.toNat := by
  revert c; decide

theorem readClassOf_eq_urgent_iff (c : BitVec 2) : readClassOf c = some .urgent ↔ c = 0 := by
  revert c; decide

theorem twoBits_cases (c : BitVec 2) : c = 0 ∨ c = 1 ∨ c = 2 ∨ c = 3 := by
  revert c; decide

theorem policyOf_eq_none_iff (f : RegionFields) :
    policyOf f = none ↔ f.policy = 3 ∨ (f.policy = 0 ∧ 4 ≤ f.group.toNat) := by
  unfold policyOf
  rcases twoBits_cases f.policy with h | h | h | h
  · by_cases hg : f.group.toNat < Config.numGroups
    · simp [h, hg, Nat.not_le.2 hg]
    · simp [h, hg, Nat.not_lt.1 hg]
  · simp [h]
  · simp [h]
  · simp [h]

theorem policyOf_eq_hold_iff (f : RegionFields) (g : GroupIx) (d : Bool) :
    policyOf f = some (.hold g d) ↔ f.policy = 0 ∧ f.group.toNat = g.val ∧ f.durable = d := by
  unfold policyOf
  rcases twoBits_cases f.policy with h | h | h | h
  · by_cases hg : f.group.toNat < Config.numGroups
    · simp [h, hg, Fin.ext_iff]
    · have hne : f.group.toNat ≠ g.val := fun he => hg (he ▸ g.isLt)
      simp [h, hg, hne]
  · simp [h]
  · simp [h]
  · simp [h]

theorem policyOf_eq_block_iff (f : RegionFields) : policyOf f = some .block ↔ f.policy = 2 := by
  unfold policyOf
  rcases twoBits_cases f.policy with h | h | h | h
  · by_cases hg : f.group.toNat < Config.numGroups <;> simp [h, hg]
  · simp [h]
  · simp [h]
  · simp [h]

theorem policyOf_eq_pass_iff (f : RegionFields) : policyOf f = some .pass ↔ f.policy = 1 := by
  unfold policyOf
  rcases twoBits_cases f.policy with h | h | h | h
  · by_cases hg : f.group.toNat < Config.numGroups <;> simp [h, hg]
  · simp [h]
  · simp [h]
  · simp [h]

theorem regionOf_invalid (h : x.getLsbD 63 = false) : regionOf x = some .powerOn := by
  rw [regionOf, show (regionFields x).valid = false from h]
  rfl

/-- R37: the checks of an entry with the valid bit set, one behind the other. -/
theorem regionOf_valid (h : x.getLsbD 63 = true)
    (hs : 12 ≤ (regionFields x).size.toNat ∧ (regionFields x).size.toNat ≤ 40)
    (hb : (regionFields x).base.toNat % 2 ^ (regionFields x).size.toNat = 0) :
    regionOf x =
      match policyOf (regionFields x), readClassOf (regionFields x).readClass with
      | some p, some c =>
        some { valid := true, base := (regionFields x).base, sizeLog := (regionFields x).size.toNat, policy := p,
               readClass := c }
      | _, _ => none := by
  have hsize : ((regionFields x).size.toNat < 12 || decide (40 < (regionFields x).size.toNat)) = false := by
    simp [Nat.not_lt.2 hs.1, Nat.not_lt.2 hs.2]
  have hbase : ((regionFields x).base.toNat % 2 ^ (regionFields x).size.toNat != 0) = false := by rw [hb]; rfl
  unfold regionOf
  dsimp only
  rw [show (regionFields x).valid = true from h, hsize, hbase]
  rfl

theorem regionOf_refused (h : x.getLsbD 63 = true)
    (hc : (regionFields x).size.toNat < 12 ∨ 40 < (regionFields x).size.toNat ∨
      (regionFields x).base.toNat % 2 ^ (regionFields x).size.toNat ≠ 0) : regionOf x = none := by
  unfold regionOf
  dsimp only
  rw [show (regionFields x).valid = true from h]
  split
  · next hv => cases hv
  split
  · rfl
  · next hs =>
    simp only [Bool.or_eq_true, decide_eq_true_eq, not_or] at hs
    have hb : ((regionFields x).base.toNat % 2 ^ (regionFields x).size.toNat != 0) = true := by
      rcases hc with hc | hc | hc
      · exact absurd hc hs.1
      · exact absurd hc hs.2
      · exact bne_iff_ne.2 hc
    rw [if_pos hb]

/-- R37: an entry with the valid bit set is refused where one of its checks fails. -/
theorem regionOf_eq_none_iff (h : x.getLsbD 63 = true) :
    regionOf x = none ↔
      (regionFields x).size.toNat < 12 ∨ 40 < (regionFields x).size.toNat ∨
        (regionFields x).base.toNat % 2 ^ (regionFields x).size.toNat ≠ 0 ∨ (regionFields x).policy = 3 ∨
        2 ≤ (regionFields x).readClass.toNat ∨ ((regionFields x).policy = 0 ∧ 4 ≤ (regionFields x).group.toNat) := by
  by_cases hc : (regionFields x).size.toNat < 12 ∨ 40 < (regionFields x).size.toNat ∨
      (regionFields x).base.toNat % 2 ^ (regionFields x).size.toNat ≠ 0
  · rw [regionOf_refused h hc]
    simp only [true_iff]
    tauto
  · simp only [not_or, Nat.not_lt, ne_eq, not_not] at hc
    obtain ⟨hlow, hhigh, hb⟩ := hc
    rw [regionOf_valid h ⟨hlow, hhigh⟩ hb]
    have hright : ((regionFields x).size.toNat < 12 ∨ 40 < (regionFields x).size.toNat ∨
        (regionFields x).base.toNat % 2 ^ (regionFields x).size.toNat ≠ 0 ∨ (regionFields x).policy = 3 ∨
        2 ≤ (regionFields x).readClass.toNat ∨ ((regionFields x).policy = 0 ∧ 4 ≤ (regionFields x).group.toNat)) ↔
        policyOf (regionFields x) = none ∨ readClassOf (regionFields x).readClass = none := by
      rw [policyOf_eq_none_iff, readClassOf_eq_none_iff, or_iff_right (Nat.not_lt.2 hlow),
        or_iff_right (Nat.not_lt.2 hhigh), or_iff_right (not_not.2 hb)]
      tauto
    rw [hright]
    rcases policyOf (regionFields x) with _ | p
    · simp
    · rcases readClassOf (regionFields x).readClass with _ | c <;> simp

/-- R37, R199: what an entry that is stored holds. -/
theorem regionOf_eq_some (h : x.getLsbD 63 = true) (hy : regionOf x = some y) :
    y.valid = true ∧ y.base = (regionFields x).base ∧ y.sizeLog = (regionFields x).size.toNat ∧
      policyOf (regionFields x) = some y.policy ∧ readClassOf (regionFields x).readClass = some y.readClass := by
  by_cases hc : (regionFields x).size.toNat < 12 ∨ 40 < (regionFields x).size.toNat ∨
      (regionFields x).base.toNat % 2 ^ (regionFields x).size.toNat ≠ 0
  · rw [regionOf_refused h hc] at hy
    cases hy
  · simp only [not_or, Nat.not_lt, ne_eq, not_not] at hc
    obtain ⟨hlow, hhigh, hb⟩ := hc
    rw [regionOf_valid h ⟨hlow, hhigh⟩ hb] at hy
    rcases hp : policyOf (regionFields x) with _ | p
    · rw [hp] at hy
      cases hy
    · rcases hr : readClassOf (regionFields x).readClass with _ | c
      · rw [hp, hr] at hy
        cases hy
      · rw [hp, hr] at hy
        cases hy
        exact ⟨rfl, rfl, rfl, rfl, rfl⟩

end Fields

/-! ## An entry read back and written again (R40, R199) -/

section RoundTrip

variable {N : Nat}

theorem extractLsb'_ofNat (hN : N < 2 ^ 64) (start len : Nat) :
    ((BitVec.ofNat 64 N).extractLsb' start len).toNat = N / 2 ^ start % 2 ^ len := by
  rw [BitVec.extractLsb'_toNat, BitVec.toNat_ofNat, Nat.mod_eq_of_lt hN, Nat.shiftRight_eq_div_pow]

theorem getLsbD_ofNat (hN : N < 2 ^ 64) (i : Nat) : (BitVec.ofNat 64 N).getLsbD i = decide (N / 2 ^ i % 2 = 1) := by
  rw [BitVec.getLsbD, BitVec.toNat_ofNat, Nat.mod_eq_of_lt hN, Nat.testBit_eq_decide_div_mod_eq]

theorem natBE_append_list (as bs : List Byte) : natBE (as ++ bs) = natBE as * 256 ^ bs.length + natBE bs := by
  induction bs using List.reverseRecOn with
  | nil => simp [natBE]
  | append_singleton bs b ih =>
    rw [← List.append_assoc, natBE_append, ih, natBE_append, List.length_append, List.length_singleton, Nat.pow_succ]
    ring

/-- R198: the number that a region entry's bytes carry. -/
theorem natBE_regionBytes (x : Region) :
    natBE (regionBytes x) =
      regionFlags x % 256 * 2 ^ 56 + readClassCode x.readClass % 256 * 2 ^ 48 + x.sizeLog % 256 * 2 ^ 40 +
        x.base.toNat := by
  have hbase : natBE (bytesBE 5 x.base.toNat) = x.base.toNat := natBE_bytesBE (n := 5) x.base.isLt
  have hhead : natBE [byte (regionFlags x), byte (readClassCode x.readClass), byte x.sizeLog] =
      (regionFlags x % 256 * 256 + readClassCode x.readClass % 256) * 256 + x.sizeLog % 256 := by
    simp [natBE, byte]
  rw [regionBytes, natBE_append_list, hbase, hhead, FrameOfLength.bytesBE_length]
  ring

/-- The fields of the entry whose bytes carry N. -/
theorem regionFields_ofNat (hN : N < 2 ^ 64) :
    (regionFields (BitVec.ofNat 64 N)).valid = decide (N / 2 ^ 63 % 2 = 1) ∧
      (regionFields (BitVec.ofNat 64 N)).group.toNat = N / 2 ^ 60 % 2 ^ 3 ∧
      (regionFields (BitVec.ofNat 64 N)).durable = decide (N / 2 ^ 59 % 2 = 1) ∧
      (regionFields (BitVec.ofNat 64 N)).policy.toNat = N / 2 ^ 56 % 2 ^ 2 ∧
      (regionFields (BitVec.ofNat 64 N)).readClass.toNat = N / 2 ^ 48 % 2 ^ 2 ∧
      (regionFields (BitVec.ofNat 64 N)).size.toNat = N / 2 ^ 40 % 2 ^ 8 ∧
      (regionFields (BitVec.ofNat 64 N)).base.toNat = N / 2 ^ 0 % 2 ^ 40 :=
  ⟨getLsbD_ofNat hN 63, extractLsb'_ofNat hN 60 3, getLsbD_ofNat hN 59, extractLsb'_ofNat hN 56 2,
    extractLsb'_ofNat hN 48 2, extractLsb'_ofNat hN 40 8, extractLsb'_ofNat hN 0 40⟩

/-- R198: byte 0 of an entry that is valid. -/
theorem regionFlags_valid {x : Region} (hv : x.valid = true) :
    regionFlags x =
      128 + match x.policy with
        | .hold g d => g.val * 16 + bit d * 8
        | .pass => 1
        | .block => 2 := by
  unfold regionFlags
  rw [hv]
  cases x.policy <;> simp [bit, policyCode]

/-- R198, R199: byte 0 spells the policy. -/
theorem policyOf_regionFlags {x : Region} {f : RegionFields} (hv : x.valid = true)
    (hp : f.policy.toNat = regionFlags x % 4) (hg : f.group.toNat = regionFlags x / 16 % 8)
    (hd : f.durable = decide (regionFlags x / 8 % 2 = 1)) : policyOf f = some x.policy := by
  rw [regionFlags_valid hv] at hp hg hd
  rcases hx : x.policy with ⟨g, d⟩ | _ | _
  · rw [hx] at hp hg hd
    have hlt : g.val < 4 := g.isLt
    rw [policyOf_eq_hold_iff]
    cases d
    · simp only [bit] at hp hg hd
      refine ⟨BitVec.eq_of_toNat_eq (hp.trans ?_), hg.trans ?_, hd.trans (decide_eq_false ?_)⟩
      · simp
        omega
      · simp
        omega
      · simp
        omega
    · simp only [bit] at hp hg hd
      refine ⟨BitVec.eq_of_toNat_eq (hp.trans ?_), hg.trans ?_, hd.trans (decide_eq_true ?_)⟩
      · simp
        omega
      · simp
        omega
      · simp
        omega
  · rw [hx] at hp
    exact (policyOf_eq_pass_iff f).2 (BitVec.eq_of_toNat_eq hp)
  · rw [hx] at hp
    exact (policyOf_eq_block_iff f).2 (BitVec.eq_of_toNat_eq hp)

theorem readClassOf_readClassCode {c : BitVec 2} {r : ReadClass} (h : c.toNat = readClassCode r) :
    readClassOf c = some r := by
  cases r with
  | urgent => rw [show c = 0 from BitVec.eq_of_toNat_eq h]; rfl
  | deferrable => rw [show c = 1 from BitVec.eq_of_toNat_eq h]; rfl

theorem regionFlags_lt {x : Region} (hv : x.valid = true) : 128 ≤ regionFlags x ∧ regionFlags x < 256 := by
  rw [regionFlags_valid hv]
  rcases x.policy with ⟨g, d⟩ | _ | _
  · have hg : g.val < 4 := g.isLt
    cases d <;> simp [bit] <;> omega
  · decide
  · decide

theorem regionOf_regionBytes_valid {x : Region} (hv : x.valid = true) (hlow : 12 ≤ x.sizeLog) (hhigh : x.sizeLog ≤ 40)
    (hb : x.base.toNat % 2 ^ x.sizeLog = 0) : regionOf (BitVec.ofNat 64 (natBE (regionBytes x))) = some x := by
  have hbase := x.base.isLt
  have hclass : readClassCode x.readClass ≤ 1 := by cases x.readClass <;> decide
  obtain ⟨hmin, hmax⟩ := regionFlags_lt hv
  have hN : natBE (regionBytes x) =
      regionFlags x * 2 ^ 56 + readClassCode x.readClass * 2 ^ 48 + x.sizeLog * 2 ^ 40 + x.base.toNat := by
    rw [natBE_regionBytes, Nat.mod_eq_of_lt hmax, Nat.mod_eq_of_lt (show x.sizeLog < 256 by omega),
      Nat.mod_eq_of_lt (show readClassCode x.readClass < 256 by omega)]
  have hlt : natBE (regionBytes x) < 2 ^ 64 := by omega
  obtain ⟨fvalid, fgroup, fdurable, fpolicy, fclass, fsize, fbase⟩ := regionFields_ofNat hlt
  rw [hN] at fvalid fgroup fdurable fpolicy fclass fsize fbase
  rw [hN]
  generalize hx : BitVec.ofNat 64 (regionFlags x * 2 ^ 56 + readClassCode x.readClass * 2 ^ 48 + x.sizeLog * 2 ^ 40 +
    x.base.toNat) = e at fvalid fgroup fdurable fpolicy fclass fsize fbase ⊢
  have hsize : (regionFields e).size.toNat = x.sizeLog := by rw [fsize]; omega
  have hbases : (regionFields e).base = x.base := BitVec.eq_of_toNat_eq (by rw [fbase]; omega)
  have hvalid : e.getLsbD 63 = true := fvalid.trans (decide_eq_true (by omega))
  have hpolicy : policyOf (regionFields e) = some x.policy :=
    policyOf_regionFlags hv (by rw [fpolicy]; omega) (by rw [fgroup]; omega)
      (by rw [fdurable]; exact decide_eq_decide.2 (by omega))
  have hread : readClassOf (regionFields e).readClass = some x.readClass :=
    readClassOf_readClassCode (by rw [fclass]; omega)
  rw [regionOf_valid hvalid (by omega) (by rw [hsize, hbases, hb]), hpolicy, hread]
  dsimp only
  rw [hsize, hbases, ← hv]

/-- R199: an entry that can be stored is read from its own bytes. -/
theorem regionOf_regionBytes {x : Region} (h : storable x) :
    regionOf (BitVec.ofNat 64 (natBE (regionBytes x))) = some x := by
  obtain ⟨hvalid, hinvalid⟩ := h
  rcases hv : x.valid with _ | _
  · rw [hinvalid hv]
    decide
  · obtain ⟨hlow, hhigh, hb⟩ := hvalid hv
    exact regionOf_regionBytes_valid hv hlow hhigh hb

end RoundTrip

/-! ## REGION_WRITE (R37, R38) -/

section Write

variable {s : State} {n : Byte} {x : BitVec 64} {k : RegionIx} {y : Region}

theorem activeHold_iff (z : Region) :
    activeHold s z = true ↔ ∃ g d, z.valid = true ∧ z.policy = .hold g d ∧
      (s.groups[g].state = .holding ∨ s.groups[g].state = .closing) := by
  unfold activeHold
  rcases z.policy with ⟨g, d⟩ | _ | _
  · simp only [Bool.and_eq_true, active_iff]
    constructor
    · exact fun ⟨hv, hg⟩ => ⟨g, d, hv, rfl, hg⟩
    · rintro ⟨g', d', hv, hp, hg⟩
      cases hp
      exact ⟨hv, hg⟩
  · simp
  · simp

theorem judgeRegionWrite_badArg (h : 12 ≤ n.toNat ∨ regionOf x = none) : judgeRegionWrite n x s = denied .badArg s := by
  unfold judgeRegionWrite
  rcases h with h | h
  · rw [regionArg_none h]
  · rw [h]
    cases regionArg n <;> rfl

theorem judgeRegionWrite_eq (hk : n.toNat = k.val) (hy : regionOf x = some y) :
    judgeRegionWrite n x s =
      if activeHold s s.regions[k] || activeHold s y then denied .busy s
      else ok { s with regions := s.regions.set k y } := by
  unfold judgeRegionWrite
  rw [regionArg_eq hk, hy]

end Write

end Sys2Proof.Proofs

namespace Sys2Proof.Settled

open Sys2Proof Sys2Proof.Machine Sys2Proof.Proofs

/-- Settles O57: the checks one behind the other, and the layout read back. -/
theorem regionWritten : Obligations.RegionWritten := by
  refine ⟨fun s n x ht => ⟨fun h => ?_, fun k y hk hy => ⟨fun h => ?_, fun hold hnew => ?_⟩⟩,
    fun x => regionOf_invalid, fun x hv => ⟨regionOf_eq_none_iff hv, fun y hy => ?_⟩, fun x => regionOf_regionBytes⟩
  · exact answers_denied (n := .regionWrite) ht rfl rfl (judgeRegionWrite_badArg h) nofun
  · refine answers_denied (n := .regionWrite) ht rfl rfl ((judgeRegionWrite_eq hk hy).trans (if_pos ?_)) nofun
    rw [Bool.or_eq_true, activeHold_iff, activeHold_iff]
    exact h
  · refine answers_ok (n := .regionWrite) ht rfl rfl ((judgeRegionWrite_eq hk hy).trans (if_neg ?_))
    rw [Bool.or_eq_true, activeHold_iff, activeHold_iff, not_or]
    exact ⟨hold, hnew⟩
  · obtain ⟨hvalid, hbase, hsize, hpolicy, hclass⟩ := regionOf_eq_some hv hy
    refine ⟨hvalid, hbase, hsize, ?_, fun g d => ?_, ?_⟩
    · have h := readClassOf_eq_urgent_iff (regionFields x).readClass
      rw [hclass, Option.some_inj] at h
      exact h
    · have h := policyOf_eq_hold_iff (regionFields x) g d
      rw [hpolicy, Option.some_inj] at h
      exact h
    · have h := policyOf_eq_pass_iff (regionFields x)
      rw [hpolicy, Option.some_inj] at h
      exact h

end Sys2Proof.Settled

/-! PROOFS. O58: the commands that open, close, reset and release groups (R90, R91, R93, R99). -/

namespace Sys2Proof.Proofs

open Sys2Proof Sys2Proof.Machine

section Close

variable {s : State} {g : GroupIx}

/-- R91: the part with the group at CLOSING and its pending release as given. -/
def closingGroup (g : GroupIx) (owed : Bool) (s : State) : State :=
  setGroup g
    { s.groups[g] with
      state := .closing, ageTimer := none, quietTimer := none, episode := closeEpisode s, pendingRelease := owed } s

theorem closeEpisode_eq (s : State) :
    closeEpisode s = if s.seqCounter = 0 then .noMark else .mark (s.seqCounter - 1) := by
  unfold closeEpisode
  by_cases h : s.seqCounter = 0
  · rw [newest_none h, if_pos h]
  · rw [newest_of_ne h, if_neg h]

theorem closingGroup_group (owed : Bool) :
    (closingGroup g owed s).groups[g] =
      { s.groups[g] with
        state := .closing, ageTimer := none, quietTimer := none, episode := closeEpisode s
        pendingRelease := owed } := by
  rw [closingGroup, setGroup_group, if_pos rfl]

/-- R101: a group at its close has a covered HELD entry where one stands at or below the mark. -/
theorem coveredHeld_closing (owed : Bool) :
    coveredHeld (closingGroup g owed s) g = true ↔ ∃ e : EntryIx, s.seqCounter ≠ 0 ∧ s.entries[e].state = .held ∧
      s.entries[e].group = g ∧ s.entries[e].seq ≤ s.seqCounter - 1 := by
  rw [coveredHeld_iff, closingGroup_group]
  dsimp only
  rw [closeEpisode_eq]
  by_cases h : s.seqCounter = 0
  · rw [if_pos h]
    exact iff_of_false nofun fun ⟨_, hne, _⟩ => hne h
  · rw [if_neg h]
    simp only [Episode.mark.injEq, exists_eq_left', ne_eq, h, not_false_eq_true, true_and]
    rfl

theorem mapGroups_closing (f : Group → Group) (owed : Bool) :
    mapGroups [g] f (closingGroup g owed s) = setGroup g (f (closingGroup g owed s).groups[g]) s := by
  have hg : (mapGroups [g] f (closingGroup g owed s)).groups =
      (setGroup g (f (closingGroup g owed s).groups[g]) s).groups := ext_fin fun j => by
    rw [mapGroups_group, setGroup_group]
    by_cases hj : j = g
    · rw [if_pos (List.mem_singleton.2 hj), if_pos hj, hj]
    · rw [if_neg (mt List.mem_singleton.1 hj), if_neg hj, closingGroup, setGroup_group, if_neg hj]
  exact congrArg (fun v : Vector Group 4 => { s with groups := v }) hg

/-- R91, R101: the close's wake is posted, owed or not wanted. -/
theorem requestWake_closing (owed : Bool) :
    requestWake [g] (closingGroup g owed s) =
      if coveredHeld (closingGroup g owed s) g = true then
        if halted s || (windowMode s && s.power.state == .asleep) then closingGroup g true s
        else takeWake (closingGroup g (if s.power.state == .awake then false else owed) s)
      else closingGroup g owed s := by
  split
  · next h =>
    rw [requestWake_eq (by simp) fun j hj => by rw [List.mem_singleton.1 hj]; exact h, mapGroups_closing,
        mapGroups_closing,
      closingGroup_group]
    rfl
  · next h =>
    have hnone : [g].filter (coveredHeld (closingGroup g owed s)) = [] :=
      List.filter_eq_nil_iff.2 fun j hj => by rw [List.mem_singleton.1 hj]; exact h
    unfold requestWake
    rw [hnone]
    rfl

theorem closeGroup_eq : closeGroup g s = testEpisode g (requestWake [g] (closingGroup g s.groups[g].pendingRelease s)) := rfl

end Close

section Release

/-- R99: one group of a RELEASE. -/
theorem namedRequest_of_bit (n : Byte) (g : GroupIx) (t : State) :
    (if (n.setWidth 4).getLsbD g.val = true then namedRequest t g else t) =
      if n.getLsbD g.val = true ∧ t.groups[g].state = .holding ∧ 0 < t.counts.groupHeld[g] then releaseRequest g t
      else t := by
  have hbit : (n.setWidth 4).getLsbD g.val = n.getLsbD g.val := by
    rw [BitVec.getLsbD_setWidth, decide_eq_true g.isLt, Bool.true_and]
  rw [hbit, namedRequest, if_congr holdingWithHeld_iff rfl rfl]
  exact (ite_and _ _ _ _).symm

theorem ownsFaulted_iff {s : State} {g : GroupIx} :
    ownsFaulted s g = true ↔ ∃ e : EntryIx, s.entries[e].state = .faulted ∧ s.entries[e].group = g := by
  simp only [ownsFaulted, any_fin_iff, Bool.and_eq_true, beq_iff_eq]

end Release

end Sys2Proof.Proofs

namespace Sys2Proof.Settled

open Sys2Proof Sys2Proof.Machine Sys2Proof.Proofs

/-- Settles O58: each command by the group its argument names and that group's state; a close by whether an entry is
covered and its wake is deferred. -/
theorem groupsCommanded : Obligations.GroupsCommanded := by
  intro s ht
  refine ⟨fun n hn => ?_, fun n g hn => ?_, fun n => ⟨fun hn => ?_, fun hn => ?_⟩⟩
  · have hnone := groupArg_none hn
    refine ⟨answers_denied (n := .groupOpen) ht rfl rfl ?_ nofun, answers_denied (n := .groupClose) ht rfl rfl ?_ nofun,
      answers_denied (n := .groupReset) ht rfl rfl ?_ nofun⟩
    · rw [judgeGroupOpen, hnone]
    · rw [judgeGroupClose, hnone]
    · rw [judgeGroupReset, hnone]
  · have hg := groupArg_eq hn
    have hopen : judgeGroupOpen n s = if active s g then denied .refused s else ok (setGroup g (openedGroup s.groups[g]) s) := by
      rw [judgeGroupOpen, hg]
    have hclose : judgeGroupClose n s =
        if s.groups[g].state = .holding then ok (settle (closeGroup g s)) else denied .refused s := by
      rw [judgeGroupClose, hg]
    have hreset : judgeGroupReset n s =
        if s.groups[g].state = .closed && !ownsFaulted s g then ok (setGroup g (resetGroup s.groups[g]) s)
        else denied .refused s := by
      rw [judgeGroupReset, hg]
    refine ⟨fun h => answers_denied (n := .groupOpen) ht rfl rfl (hopen.trans (if_pos (active_iff.2 h))) nofun,
      fun h => ?_, fun h => answers_denied (n := .groupClose) ht rfl rfl (hclose.trans (if_neg h)) nofun,
      fun h => ?_, fun h => ?_, fun h hno => ?_⟩
    · have hno : ¬active s g = true := fun ha => by
        rcases active_iff.1 ha with ha | ha <;> rw [ha] at h <;> exact h.elim nofun nofun
      exact answers_ok (n := .groupOpen) ht rfl rfl (hopen.trans (if_neg hno))
    · have hdef : (halted s || (windowMode s && s.power.state == .asleep)) = true ↔
          halted s = true ∨ (windowMode s = true ∧ s.power.state = .asleep) := by
        rw [Bool.or_eq_true, Bool.and_eq_true, beq_iff_eq]
      have hheld := coveredHeld_closing (s := s) (g := g) s.groups[g].pendingRelease
      have hok (u : State) (hu : requestWake [g] (closingGroup g s.groups[g].pendingRelease s) = u) :
          Answers (.groupClose n) s .ok [] (settle (testEpisode g u)) :=
        answers_ok (n := .groupClose) ht rfl rfl (hclose.trans (by rw [if_pos h, closeGroup_eq, hu]))
      rw [requestWake_closing] at hok
      dsimp only
      rw [← closeEpisode_eq, ← hheld, ← hdef]
      rcases hc : coveredHeld (closingGroup g s.groups[g].pendingRelease s) g with _ | _
      · refine ⟨_, s.groups[g].pendingRelease, rfl, by simp, by simp, fun _ => hok _ (by rw [hc]; rfl)⟩
      · rcases hd : (halted s || (windowMode s && s.power.state == .asleep)) with _ | _
        · refine ⟨_, if s.power.state == .awake then false else s.groups[g].pendingRelease, rfl, ?_,
            fun _ _ => hok _ (by rw [hc, hd]; rfl), by simp⟩
          by_cases ha : s.power.state = .awake <;> simp [ha]
        · exact ⟨_, true, rfl, by simp, by simp, fun _ => hok _ (by rw [hc, hd]; rfl)⟩
    · refine answers_denied (n := .groupReset) ht rfl rfl (hreset.trans (if_neg ?_)) nofun
      rw [Bool.and_eq_true, decide_eq_true_eq, Bool.not_eq_true', ← Bool.not_eq_true, ownsFaulted_iff]
      rintro ⟨hclosed, hno⟩
      exact h.elim (fun hne => hne hclosed) hno
    · refine answers_ok (n := .groupReset) ht rfl rfl (hreset.trans (if_pos ?_))
      rw [Bool.and_eq_true, decide_eq_true_eq, Bool.not_eq_true', ← Bool.not_eq_true, ownsFaulted_iff]
      exact ⟨h, hno⟩
  · exact answers_denied (n := .release) ht rfl rfl (if_pos hn) nofun
  · have hgroups : (groupsOf (n.setWidth 4)).foldl namedRequest s =
        ([0, 1, 2, 3] : List GroupIx).foldl
          (fun t g => if (n.setWidth 4).getLsbD g.val = true then namedRequest t g else t) s := by
      rw [groupsOf, List.foldl_filter]
      rfl
    simp only [namedRequest_of_bit] at hgroups
    refine answers_ok (n := .release) ht rfl rfl ((if_neg (Nat.not_le.2 hn)).trans ?_)
    rw [releaseGroups, hgroups]
    rfl

end Sys2Proof.Settled

/-! PROOFS. O59: FAULT_RETRY and FAULT_DISCARD, and the lift of the halt that the removal of a record brings (R22, R23,
R134, R163). -/

namespace Sys2Proof.Proofs

open Sys2Proof Sys2Proof.Machine

section Fault

variable {s w : State} {e : EntryIx} {k : FaultIx}

/-- R163: the part after the removal of the record in slot k, with the halt lifted where 6 records stood. -/
def recordRemoved (k : FaultIx) (s : State) : State :=
  if 6 ≤ s.faultOrder.length ∧ (removeFault k s).faultOrder.length < 6 then liftHalt (removeFault k s) else removeFault k s

theorem removeRecordOf_eq (hk : s.entries[e].faultSlot = some k) : removeRecordOf e s = recordRemoved k s := by
  have hlift : (halted s && !halted (removeFault k s)) = true ↔
      6 ≤ s.faultOrder.length ∧ (removeFault k s).faultOrder.length < 6 := by
    rw [Bool.and_eq_true, Bool.not_eq_true', ← Bool.not_eq_true, halted_iff, halted_iff, Nat.not_le]
  have hremoved : removeRecordOf e s = removeFaultAndLift k s := by
    rw [removeRecordOf, hk]
  rw [hremoved, removeFaultAndLift, recordRemoved]
  exact if_congr hlift rfl rfl

theorem removeFault_recordRemoved (k : FaultIx) (s : State) : Internal (removeFault k s) (recordRemoved k s) := by
  unfold recordRemoved
  split
  · exact liftHalt_internal _
  · exact .refl _

/-- R22: re-entry as seen from a part with the same store. -/
theorem reenter_of_same (he : w.entries = s.entries) (ha : w.ageList = s.ageList) (hq : w.seqCounter = s.seqCounter)
    (ht : w.timestamp = s.timestamp) (hc : w.counts = s.counts) :
    reenter e w =
      { w with
        entries := s.entries.set e
          { s.entries[e] with
            state := .held, seq := s.seqCounter, allocTime := s.timestamp, merges := 0, attempts := 0
            lastCause := none, expedite := true, waiters := [], faultSlot := none }
        ageList := s.ageList ++ [e], seqCounter := s.seqCounter + 1
        counts :=
          { s.counts with
            held := s.counts.held + 1, faulted := s.counts.faulted - 1
            groupHeld := s.counts.groupHeld.set s.entries[e].group (s.counts.groupHeld[s.entries[e].group] + 1) } } := by
  rw [reenter, he, ha, hq, ht, hc]
  rfl

/-- R23: a discard as seen from a part with the same store and counters. -/
theorem discard_of_same (he : w.entries = s.entries) (hc : w.counts = s.counts) (hn : w.counters = s.counters) :
    Machine.discard e w =
      { w with
        entries := s.entries.set e (.cleared s.entries[e].data)
        counts := { s.counts with faulted := s.counts.faulted - 1 }
        counters := { s.counters with discardedLines := s.counters.discardedLines + 1 } } := by
  rw [Machine.discard, countDiscardedLine, he, hc]
  dsimp only
  rw [hn]

theorem retryFault_eq (hk : s.entries[e].faultSlot = some k) :
    retryFault e s =
      settle (reportReentry s.entries[e].group (takeWake
        { recordRemoved k s with
          entries := s.entries.set e
            { s.entries[e] with
              state := .held, seq := s.seqCounter, allocTime := s.timestamp, merges := 0, attempts := 0
              lastCause := none, expedite := true, waiters := [], faultSlot := none }
          ageList := s.ageList ++ [e], seqCounter := s.seqCounter + 1
          counts :=
            { s.counts with
              held := s.counts.held + 1, faulted := s.counts.faulted - 1
              groupHeld :=
                s.counts.groupHeld.set s.entries[e].group (s.counts.groupHeld[s.entries[e].group] + 1) } })) := by
  have i := removeFault_recordRemoved k s
  rw [retryFault, removeRecordOf_eq hk,
    reenter_of_same (s := s) i.entries i.ageList i.seqCounter i.timestamp i.counts]

theorem discardFault_eq (hk : s.entries[e].faultSlot = some k) :
    discardFault e s =
      settle (endStalls
        { recordRemoved k s with
          entries := s.entries.set e (.cleared s.entries[e].data)
          counts := { s.counts with faulted := s.counts.faulted - 1 }
          counters := { s.counters with discardedLines := s.counters.discardedLines + 1 } }) := by
  have i := removeFault_recordRemoved k s
  rw [discardFault, removeRecordOf_eq hk, discard_of_same (s := s) i.entries i.counts i.counters]

theorem recordRemoved_state (k : FaultIx) (s : State) (g : GroupIx) :
    (recordRemoved k s).groups[g].state = s.groups[g].state := by
  unfold recordRemoved
  split
  · rw [liftHalt_group]
    rfl
  · rfl

end Fault

end Sys2Proof.Proofs

namespace Sys2Proof.Settled

open Sys2Proof Sys2Proof.Machine Sys2Proof.Proofs

/-- Settles O59: the lift of the halt by the releases owed and pressure; each command by its entry, the group's state and
the sequence counter. -/
theorem faultsServed : Obligations.FaultsServed := by
  refine ⟨fun v => ⟨paidGroups v, rfl, paidGroups_group v, fun h => (liftHalt_eq v).trans (if_pos h), fun h => ?_⟩,
    fun s ht => ⟨fun n hn => ?_, fun n e hn => ?_⟩⟩
  · refine (liftHalt_eq v).trans (if_neg ?_)
    obtain ⟨hp, hkept⟩ := h
    rintro (hpress | ⟨hk, g, hg⟩)
    · exact Bool.false_ne_true (hp.symm.trans hpress)
    · rcases hkept with hkept | hnone
      · exact Bool.false_ne_true (hk.symm.trans hkept)
      · exact Bool.false_ne_true ((hnone g).symm.trans hg)
  · have hnone := entryArg_none hn
    refine ⟨answers_denied (n := .faultRetry) ht rfl rfl ?_ nofun,
        answers_denied (n := .faultDiscard) ht rfl rfl ?_ nofun⟩
    · rw [judgeFaultRetry, hnone]
    · rw [judgeFaultDiscard, hnone]
  · have he := entryArg_eq hn
    have hretry : judgeFaultRetry n s =
        if s.entries[e].state ≠ .faulted then denied .refused s
        else if !active s s.entries[e].group then denied .refused s
        else if s.seqCounter == topSeq then denied .busy s
        else ok (retryFault e s) := by
      rw [judgeFaultRetry, he]
    have hdiscard : judgeFaultDiscard n s =
        if s.entries[e].state = .faulted then ok (discardFault e s) else denied .refused s := by
      rw [judgeFaultDiscard, he]
    refine ⟨fun hx => ⟨answers_denied (n := .faultRetry) ht rfl rfl (hretry.trans (if_pos hx)) nofun,
        answers_denied (n := .faultDiscard) ht rfl rfl (hdiscard.trans (if_neg hx)) nofun⟩,
      fun hx ha => answers_denied (n := .faultRetry) ht rfl rfl (hretry.trans ?_) nofun,
      fun hx ha hq => answers_denied (n := .faultRetry) ht rfl rfl (hretry.trans ?_) nofun,
      fun k hx hk => ⟨fun ha hq => ?_, ?_⟩⟩
    · rw [if_neg (not_not.2 hx), ha]
      rfl
    · have htop : (s.seqCounter == topSeq) = true := beq_iff_eq.2 hq
      rw [if_neg (not_not.2 hx), ha, if_neg (by simp), if_pos htop]
    · have hok := hretry
      have htop : ¬(s.seqCounter == topSeq) = true := fun h => hq (beq_iff_eq.1 h)
      rw [if_neg (not_not.2 hx), ha, if_neg (by simp), if_neg htop, retryFault_eq hk] at hok
      refine ⟨fun hc => ?_, fun hh => ?_⟩
      · refine answers_ok (n := .faultRetry) ht rfl rfl (hok.trans ?_)
        rw [reportReentry, takeWake_group, if_pos]
        · rfl
        · exact (recordRemoved_state k s _).trans hc
      · refine answers_ok (n := .faultRetry) ht rfl rfl (hok.trans ?_)
        rw [reportReentry, takeWake_group, if_neg]
        · rfl
        · intro hc
          cases ((recordRemoved_state k s _).trans hh).symm.trans hc
    · refine answers_ok (n := .faultDiscard) ht rfl rfl (hdiscard.trans ?_)
      rw [if_pos hx, discardFault_eq hk]
      rfl

end Sys2Proof.Settled

/-! PROOFS. O54, O55: the write of a register: which row a frame is, how it is judged, and what the register then reads
(9.6, R187 to R189). -/

namespace Sys2Proof.Proofs

open Sys2Proof Sys2Proof.Machine

/-! ## The rows that write a register (10.4) -/

section Rows

variable {c : Instr} {n : Byte} {v : BitVec 32} {s : State}

theorem writeArgs_inj {m : Byte} {w : BitVec 32} (h : writeArgs m w = writeArgs n v) : m = n ∧ w = v := by
  obtain ⟨hm, hbytes⟩ := List.cons.inj h
  refine ⟨hm, ?_⟩
  rw [← ofNat_natBE_bytesBE 4 rfl w, ← ofNat_natBE_bytesBE 4 rfl v, hbytes]

theorem judgeWriteReg_of_number {r : Register} (h : registerNumber r = n.toNat) :
    judgeWriteReg n v s = judgeWrite r v s := by
  rw [judgeWriteReg, registerOfNumber_eq_some_iff.2 h]

/-- A register's own row is the write of its number. -/
theorem exec_ownRow {r : Register} {w : BitVec 32} (hexec : exec c s = .next (writeRegister r w s))
    (h : registerWriteArgs r w = writeArgs n v) :
    exec c s = .next (manage .writeReg (writeArgs n v) (judgeWriteReg n v) s) := by
  obtain ⟨hn, rfl⟩ := writeArgs_inj h
  have hr : registerNumber r = n.toNat := by rw [← hn, toNat_registerNumber]
  have hjudge : judgeWriteReg n w = judgeWrite r w := funext fun t => judgeWriteReg_of_number hr
  rw [hexec, writeRegister, h, hjudge]

/-- R188: whichever row a WRITE_REG frame is, it is judged as the write of the register its number names. -/
theorem exec_writeFrame (h : frameOf c = some (commandByte .writeReg, writeArgs n v)) :
    exec c s = .next (manage .writeReg (writeArgs n v) (judgeWriteReg n v) s) := by
  have hargs {b : Byte} {args : List Byte} (hf : some (b, args) = some (commandByte .writeReg, writeArgs n v)) :
      b = commandByte .writeReg ∧ args = writeArgs n v := Prod.mk.inj (Option.some.inj hf)
  cases c
  case unknownCommand x => exact absurd (hargs h).2 (List.cons_ne_nil _ _).symm
  case writeReg m w =>
    obtain ⟨rfl, rfl⟩ := writeArgs_inj (hargs h).2
    rfl
  case tickDiv | fullPolicy | deferLimit | deferCount | creditLimit | respLimit | highMark | lowMark | oppMark |
      sleepDelay | windowPeriod | attnEnable | ageLimit | relMode | relValue | lineLimit | companions =>
    exact exec_ownRow rfl (hargs h).2
  case readReg | take | ack | regionRead | regionWrite | groupOpen | groupClose | groupReset | release | wake | cycle |
      recover | faultRead | faultRetry | faultDiscard | entryPeek | status | clearCounters | clear =>
    exact absurd (hargs h).1 (by decide)
  all_goals cases h

end Rows

/-! ## What a register holds after its write (R188 step 5) -/

section Stored

variable {r q : Register} {v : Nat} {s : State}

/-- The part with the register's field replaced, without what the register's own rule adds. -/
def stored (r : Register) (v : Nat) (s : State) : State :=
  match r with
  | .tickDiv => setRegs { s.regs with tickDiv := BitVec.ofNat 8 v } s
  | .fullPolicy => setRegs { s.regs with fullPolicy := fullPolicyOf v } s
  | .deferLimit => setRegs { s.regs with deferLimit := BitVec.ofNat 16 v } s
  | .deferCount => setRegs { s.regs with deferCount := BitVec.ofNat 8 v } s
  | .rdRetry => setRegs { s.regs with rdRetry := BitVec.ofNat 8 v } s
  | .wrRetry => setRegs { s.regs with wrRetry := BitVec.ofNat 8 v } s
  | .creditLimit => setRegs { s.regs with creditLimit := BitVec.ofNat 8 v } s
  | .respLimit => setRegs { s.regs with respLimit := BitVec.ofNat 16 v } s
  | .highMark => setRegs { s.regs with highMark := BitVec.ofNat 8 v } s
  | .lowMark => setRegs { s.regs with lowMark := BitVec.ofNat 8 v } s
  | .oppMark => setRegs { s.regs with oppMark := BitVec.ofNat 8 v } s
  | .sleepDelay => setRegs { s.regs with sleepDelay := BitVec.ofNat 16 v } s
  | .wakeLimit => setRegs { s.regs with wakeLimit := BitVec.ofNat 16 v } s
  | .windowPeriod => setPower { s.power with staged := BitVec.ofNat 16 v } s
  | .ageLimit g => setGroup g { s.groups[g] with ageLimit := BitVec.ofNat 16 v } s
  | .relMode g => setGroup g { s.groups[g] with relMode := relModeOf v } s
  | .relValue g => setGroup g { s.groups[g] with relValue := BitVec.ofNat 16 v } s
  | .lineLimit g => setGroup g { s.groups[g] with lineLimit := BitVec.ofNat 8 v } s
  | .companions g => setGroup g { s.groups[g] with companions := BitVec.ofNat 4 v } s
  | .attnEnable => setRegs { s.regs with attnEnable := BitVec.ofNat 16 v } s
  | .id | .attnStatus | .wakes | .sleeps | .fullHits | .throughWrites | .retries | .discardedLines | .resetRecord => s

/-- The registers read the same in the two parts. -/
structure SameRegisters (s t : State) : Prop where
  regs : t.regs = s.regs
  staged : t.power.staged = s.power.staged
  groups : t.groups = s.groups

theorem SameRegisters.value (h : SameRegisters s t) (hq : readOnly q = false) : registerValue t q = registerValue s q :=
  registerValue_congr hq h.regs h.staged fun g => by
    rw [h.groups]
    exact ⟨rfl, rfl, rfl, rfl, rfl⟩

theorem sameRegisters_takeWake (s : State) : SameRegisters s (takeWake s) :=
  ⟨takeWake_regs, takeWake_staged s, takeWake_groups⟩

theorem sameRegisters_deferralTest (s : State) : SameRegisters s (deferralTest s) := by
  unfold deferralTest
  split
  · exact sameRegisters_takeWake s
  · exact ⟨rfl, rfl, rfl⟩

theorem sameRegisters_settle (s : State) : SameRegisters s (settle s) := by
  refine ⟨settle_regs, ?_, settle_groups⟩
  rw [settle_power]
  show (pressureWoken s).power.staged = _
  unfold pressureWoken
  split
  · exact takeWake_staged s
  · rfl

/-- What a register's own rule adds changes no register. -/
theorem sameRegisters_storeRegister (r : Register) (v : Nat) (s : State) :
    SameRegisters (stored r v s) (storeRegister r v s) := by
  cases r
  case highMark | lowMark | oppMark => exact sameRegisters_settle _
  case deferLimit | deferCount => exact sameRegisters_deferralTest _
  case fullPolicy =>
    unfold storeRegister writeFullPolicy
    dsimp only
    split
    · obtain ⟨hregs, hstaged, hgroups⟩ := sameRegisters_settle (endStalls (stored .fullPolicy v s))
      exact ⟨hregs, hstaged, hgroups⟩
    · exact ⟨rfl, rfl, rfl⟩
  case windowPeriod =>
    unfold storeRegister writeWindowPeriod
    dsimp only
    split <;> exact ⟨rfl, rfl, rfl⟩
  all_goals exact ⟨rfl, rfl, rfl⟩

theorem fullPolicyCode_fullPolicyOf (h : v ≤ 1) : fullPolicyCode (fullPolicyOf v) = v := by
  interval_cases v <;> rfl

theorem relModeCode_relModeOf (h : v ≤ 1) : relModeCode (relModeOf v) = v := by
  interval_cases v <;> rfl

/-- R187, R188: the register reads back the value that passed its checks. -/
theorem registerValue_stored_same (hr : readOnly r = false) (hv : v < 2 ^ registerWidth r)
    (hin : inRange s r v = true) :
    registerValue (stored r v s) r = v := by
  have hset (g : GroupIx) (x : Group) : (setGroup g x s).groups[g] = x := by rw [setGroup_group, if_pos rfl]
  have hfits : v % 2 ^ registerWidth r = v := Nat.mod_eq_of_lt hv
  cases r
  case id | attnStatus | wakes | sleeps | fullHits | throughWrites | retries | discardedLines | resetRecord => cases hr
  case fullPolicy => exact fullPolicyCode_fullPolicyOf (of_decide_eq_true hin)
  case relMode g =>
    have hcode : relModeCode (stored (.relMode g) v s).groups[g].relMode = relModeCode (relModeOf v) :=
      congrArg (fun x : Group => relModeCode x.relMode) (hset g _)
    exact hcode.trans (relModeCode_relModeOf (of_decide_eq_true hin))
  case ageLimit g =>
    have hkept : (stored (.ageLimit g) v s).groups[g].ageLimit = BitVec.ofNat _ v := congrArg Group.ageLimit (hset g _)
    exact (congrArg BitVec.toNat hkept).trans ((BitVec.toNat_ofNat ..).trans hfits)
  case relValue g =>
    have hkept : (stored (.relValue g) v s).groups[g].relValue = BitVec.ofNat _ v := congrArg Group.relValue (hset g _)
    exact (congrArg BitVec.toNat hkept).trans ((BitVec.toNat_ofNat ..).trans hfits)
  case lineLimit g =>
    have hkept : (stored (.lineLimit g) v s).groups[g].lineLimit = BitVec.ofNat _ v :=
        congrArg Group.lineLimit (hset g _)
    exact (congrArg BitVec.toNat hkept).trans ((BitVec.toNat_ofNat ..).trans hfits)
  case companions g =>
    have hkept : (stored (.companions g) v s).groups[g].companions = BitVec.ofNat _ v :=
        congrArg Group.companions (hset g _)
    exact (congrArg BitVec.toNat hkept).trans ((BitVec.toNat_ofNat ..).trans hfits)
  all_goals exact (BitVec.toNat_ofNat ..).trans hfits

/-- A register that is no field of group g reads the same whatever the group's record. -/
theorem registerValue_setGroup {g : GroupIx} {x : Group} (hq : readOnly q = false)
    (hage : q = .ageLimit g → x.ageLimit = s.groups[g].ageLimit)
    (hmode : q = .relMode g → x.relMode = s.groups[g].relMode)
    (hvalue : q = .relValue g → x.relValue = s.groups[g].relValue)
    (hline : q = .lineLimit g → x.lineLimit = s.groups[g].lineLimit)
    (hcomp : q = .companions g → x.companions = s.groups[g].companions) :
    registerValue (setGroup g x s) q = registerValue s q := by
  have hfield {α : Type} (f : Group → α) (j : GroupIx) (h : j = g → f x = f s.groups[g]) :
      f (setGroup g x s).groups[j] = f s.groups[j] := by
    rw [setGroup_group]
    split
    · next hj => rw [h hj, hj]
    · rfl
  cases q
  case id | attnStatus | wakes | sleeps | fullHits | throughWrites | retries | discardedLines | resetRecord => cases hq
  case ageLimit j => exact congrArg BitVec.toNat (hfield Group.ageLimit j fun h => hage (by rw [h]))
  case relMode j => exact congrArg relModeCode (hfield Group.relMode j fun h => hmode (by rw [h]))
  case relValue j => exact congrArg BitVec.toNat (hfield Group.relValue j fun h => hvalue (by rw [h]))
  case lineLimit j => exact congrArg BitVec.toNat (hfield Group.lineLimit j fun h => hline (by rw [h]))
  case companions j => exact congrArg BitVec.toNat (hfield Group.companions j fun h => hcomp (by rw [h]))
  all_goals rfl

/-- R188: every other writable register holds what it held. -/
theorem registerValue_stored_other (hq : readOnly q = false) (h : q ≠ r) :
    registerValue (stored r v s) q = registerValue s q := by
  cases r
  case ageLimit g =>
    exact registerValue_setGroup hq (fun e => absurd e h) (fun _ => rfl) (fun _ => rfl)
      (fun _ => rfl) fun _ => rfl
  case relMode g =>
    exact registerValue_setGroup hq (fun _ => rfl) (fun e => absurd e h) (fun _ => rfl)
      (fun _ => rfl) fun _ => rfl
  case relValue g =>
    exact registerValue_setGroup hq (fun _ => rfl) (fun _ => rfl) (fun e => absurd e h)
      (fun _ => rfl) fun _ => rfl
  case lineLimit g =>
    exact registerValue_setGroup hq (fun _ => rfl) (fun _ => rfl) (fun _ => rfl)
      (fun e => absurd e h) fun _ => rfl
  case companions g =>
    exact registerValue_setGroup hq (fun _ => rfl) (fun _ => rfl) (fun _ => rfl)
      (fun _ => rfl) fun e => absurd e h
  all_goals
    cases q
    case id | attnStatus | wakes | sleeps | fullHits | throughWrites | retries | discardedLines | resetRecord => cases hq
    all_goals first | exact absurd rfl h | rfl

end Stored

end Sys2Proof.Proofs

namespace Sys2Proof.Settled

open Sys2Proof Sys2Proof.Machine Sys2Proof.Proofs

/-- Settles O54: whichever row the frame is, it is judged as its number's register, check by check. -/
theorem registerWritten : Obligations.RegisterWritten := by
  intro c n v s ht hframe
  have hexec : exec c s = .next (manage .writeReg (writeArgs n v) (judgeWriteReg n v) s) := exec_writeFrame hframe
  have hdenied (st : Status) (hj : judgeWriteReg n v s = denied st s) (hst : st ≠ .ok) : Answers c s st [] s :=
    answers_denied (n := .writeReg) ht hframe hexec hj hst
  refine ⟨fun hno => hdenied .badArg ?_ nofun, fun r hr => ?_⟩
  · rw [judgeWriteReg, registerOfNumber_eq_none_iff.2 hno]
  · rw [judgeWriteReg_of_number hr, judgeWrite] at hdenied
    refine ⟨fun hro => hdenied .refused (if_pos hro) nofun, fun hro hbad => hdenied .badArg ?_ nofun,
      fun hro hfit hin => ⟨fun hbusy => hdenied .busy ?_ nofun, fun hfree => ⟨?_, ?_, fun q hq hne => ?_⟩⟩⟩
    · rw [hro, if_neg (by decide)]
      by_cases hwide : 2 ^ registerWidth r ≤ v.toNat
      · rw [if_pos hwide]
      · rw [if_neg hwide, hbad.resolve_left hwide]
        rfl
    · rw [hro, hin, hbusy, if_neg (by decide), if_neg (Nat.not_le.2 hfit)]
      rfl
    · refine answers_ok (n := .writeReg) ht hframe hexec ((judgeWriteReg_of_number hr).trans ?_)
      rw [judgeWrite, hro, hin, hfree, if_neg (by decide), if_neg (Nat.not_le.2 hfit)]
      rfl
    · rw [(sameRegisters_storeRegister r v.toNat s).value hro, registerValue_stored_same hro hfit hin]
    · rw [(sameRegisters_storeRegister r v.toNat s).value hq, registerValue_stored_other hq hne]

end Sys2Proof.Settled

/-! PROOFS. O55: the checks of each register and what its own rule adds to a write (9.6). -/

namespace Sys2Proof.Proofs

open Sys2Proof Sys2Proof.Machine

section Checks

variable {s : State} {v : Nat}

/-- R167: the values of ATTN_ENABLE that name causes alone. -/
theorem inRange_attnEnable (hv : v < 2 ^ 16) : inRange s .attnEnable v = true ↔ v < 2 ^ 13 := by
  have hname := namesNonCause_iff (BitVec.ofNat 16 v)
  rw [BitVec.toNat_ofNat, Nat.mod_eq_of_lt hv] at hname
  rw [inRange, Bool.not_eq_true', ← Bool.not_eq_true, hname, Nat.not_le]

/-- R119: OPP_MARK stays at or below HIGH_MARK. -/
theorem inRange_oppMark :
    inRange s .oppMark v = true ↔
      1 ≤ v ∧ v ≤ 48 ∧ v ≤ s.regs.highMark.toNat ∧ s.regs.lowMark.toNat < s.regs.highMark.toNat := by
  simp only [inRange, marksConsistent, Bool.and_eq_true, decide_eq_true_eq]
  omega

theorem anyActive_iff : anyActive s = true ↔ ∃ g : GroupIx, active s g = true := by
  simp only [anyActive, List.any_eq_true, List.mem_finRange, true_and]

/-- R86, R89, R189: the registers with a state check, and the check. -/
theorem writeBusy_iff (r : Register) :
    writeBusy s r = true ↔ (r = .tickDiv ∧ ∃ g : GroupIx, active s g = true) ∨
      ∃ g : GroupIx, s.groups[g].state ≠ .idle ∧
        (r = .ageLimit g ∨ r = .relMode g ∨ r = .relValue g ∨ r = .lineLimit g ∨ r = .companions g) := by
  have hgroup {p : Prop} (j : GroupIx) (hp : p ↔ ∃ g : GroupIx, s.groups[g].state ≠ .idle ∧ j = g) :
      (s.groups[j].state != .idle) = true ↔ p := by
    rw [bne_iff_ne, hp]
    exact ⟨fun h => ⟨j, h, rfl⟩, fun ⟨g, h, e⟩ => e ▸ h⟩
  cases r
  case tickDiv => simp [writeBusy, anyActive_iff]
  case ageLimit j | relMode j | relValue j | lineLimit j | companions j =>
    exact hgroup j (by simp)
  all_goals simp [writeBusy]

end Checks

section Effects

variable {s : State} {v : Nat}

/-- R139: a running countdown restarts from the new SLEEP_DELAY. -/
theorem storeRegister_sleepDelay (v : Nat) (s : State) :
    storeRegister .sleepDelay v s =
      { stored .sleepDelay v s with
        power :=
          { s.power with
            sleepCountdown := if countdownRuns (stored .sleepDelay v s) then some (v % 2 ^ 16) else none } } := by
  have hleft : (BitVec.ofNat 16 v).toNat = v % 2 ^ 16 := BitVec.toNat_ofNat ..
  rw [← hleft]
  rfl

/-- R152: the new period is staged, and current at once while the current period is 0. -/
theorem storeRegister_windowPeriod (hv : v < 2 ^ 16) :
    storeRegister .windowPeriod v s =
      { s with
        power :=
          (if s.power.current = 0 then
            { s.power with
              staged := BitVec.ofNat 16 v, current := BitVec.ofNat 16 v
              windowCountdown := if v = 0 then none else some (v * 100) }
          else { s.power with staged := BitVec.ofNat 16 v }) } := by
  have hnat : (BitVec.ofNat 16 v).toNat = v := by rw [BitVec.toNat_ofNat, Nat.mod_eq_of_lt hv]
  have hzero : BitVec.ofNat 16 v = 0 ↔ v = 0 := by
    rw [← hnat, BitVec.ofNat_toNat, BitVec.setWidth_eq, ← BitVec.toNat_inj]
    rfl
  have hstart : windowStart (BitVec.ofNat 16 v) = if v = 0 then none else some (v * 100) := by
    rw [windowStart_eq, hnat, if_congr hzero rfl rfl]
  unfold storeRegister writeWindowPeriod
  dsimp only
  by_cases hc : s.power.current = 0
  · rw [if_pos (beq_iff_eq.2 hc), if_pos hc, makeStagedCurrent, ← hstart]
    rfl
  · rw [if_neg (mt beq_iff_eq.1 hc), if_neg hc]
    rfl

/-- R89: a write of a group's register replaces one field of that group's record. -/
theorem groups_of_setGroup {g : GroupIx} {x : Group} {t : State} (ht : t = setGroup g x s)
    (hx : x = { s.groups[g] with
      ageLimit := x.ageLimit, relMode := x.relMode, relValue := x.relValue, lineLimit := x.lineLimit
      companions := x.companions }) :
    t = { s with groups := t.groups } ∧ (∀ j : GroupIx, j ≠ g → t.groups[j] = s.groups[j]) ∧
      t.groups[g] =
        { s.groups[g] with
          ageLimit := t.groups[g].ageLimit, relMode := t.groups[g].relMode, relValue := t.groups[g].relValue
          lineLimit := t.groups[g].lineLimit, companions := t.groups[g].companions } := by
  subst ht
  have hg : (setGroup g x s).groups[g] = x := by rw [setGroup_group, if_pos rfl]
  refine ⟨rfl, fun j hj => by rw [setGroup_group, if_neg hj], ?_⟩
  rw [hg]
  exact hx

end Effects

end Sys2Proof.Proofs

namespace Sys2Proof.Settled

open Sys2Proof Sys2Proof.Machine Sys2Proof.Proofs

/-- Settles O55: the ranges as the checks of 9.6 compute them, then each register's own rule. -/
theorem registerChecksAndEffects : Obligations.RegisterChecksAndEffects := by
  intro s v
  refine ⟨by simp [inRange], by simp [inRange], rfl, by simp [inRange], by simp [inRange], by simp [inRange],
    by simp [inRange], by simp [inRange], by simp [inRange], by simp [inRange, marksConsistent, and_assoc],
    by simp [inRange, marksConsistent], inRange_oppMark, rfl, rfl,
    inRange_attnEnable, fun g => ⟨rfl, by simp [inRange], rfl, by simp [inRange], rfl⟩, writeBusy_iff, ?_, ?_, ?_, ?_,
    ⟨stored .sleepDelay v s, rfl, BitVec.toNat_ofNat .., storeRegister_sleepDelay v s⟩, storeRegister_windowPeriod, ?_⟩
  · rintro r (rfl | rfl | rfl | rfl | rfl | rfl | rfl) <;> rfl
  · refine ⟨fullPolicyOf v, fun h => if_pos h, fun h => if_neg (by omega), fun hs hv => if_pos ⟨if_neg (by omega), hs⟩,
      ?_⟩
    rintro (hs | hv)
    · refine if_neg ?_
      rintro ⟨-, hstall⟩
      cases hs.symm.trans hstall
    · refine if_neg ?_
      rintro ⟨hthrough, -⟩
      cases (if_pos hv).symm.trans hthrough
  · rintro r (rfl | rfl)
    · exact ⟨stored .deferLimit v s, rfl, BitVec.toNat_ofNat .., rfl⟩
    · exact ⟨stored .deferCount v s, rfl, BitVec.toNat_ofNat .., rfl⟩
  · rintro r (rfl | rfl | rfl)
    · exact ⟨stored .highMark v s, rfl, BitVec.toNat_ofNat .., rfl⟩
    · exact ⟨stored .lowMark v s, rfl, BitVec.toNat_ofNat .., rfl⟩
    · exact ⟨stored .oppMark v s, rfl, BitVec.toNat_ofNat .., rfl⟩
  · rintro g r (rfl | rfl | rfl | rfl | rfl) <;> exact groups_of_setGroup rfl rfl

end Sys2Proof.Settled

/-! PROOFS. O53: the layouts of the replies (10.5, R198) read back field by field. -/

namespace Sys2Proof.Proofs

open Sys2Proof Sys2Proof.Machine Sys2Proof.Laws.FrameOfLength

/-! ## One byte (R197) -/

section Byte

theorem natBE_byte {n : Nat} (h : n < 256) : natBE [byte n] = n := by
  have hone : natBE [byte n] = (byte n).toNat := Nat.zero_add _
  rw [hone, byte, BitVec.toNat_ofNat, Nat.mod_eq_of_lt h]

/-- R197: a word in the bytes that hold it. -/
theorem natBE_bytesBE_toNat {w : Nat} (n : Nat) (hw : w ≤ 8 * n) (x : BitVec w) :
    natBE (bytesBE n x.toNat) = x.toNat := by
  have hpow : 2 ^ w ≤ 256 ^ n := Nat.le_trans (Nat.pow_le_pow_right (by decide) hw) (Nat.le_of_eq (Nat.pow_mul 2 8 n))
  exact natBE_bytesBE (Nat.lt_of_lt_of_le x.isLt hpow)

/-- 10.5: a byte of up to three flags. -/
theorem flags_bits (a b c : Bool) :
    (byte (bit a + 2 * bit b + 4 * bit c)).getLsbD 0 = a ∧ (byte (bit a + 2 * bit b + 4 * bit c)).getLsbD 1 = b ∧
      (byte (bit a + 2 * bit b + 4 * bit c)).getLsbD 2 = c ∧ (byte (bit a + 2 * bit b + 4 * bit c)).toNat < 8 := by
  revert a b c; decide

/-- 10.5: the flags byte of an entry record. -/
theorem entryFlags_bits (a b : Bool) :
    (byte (bit a + 2 * bit b)).getLsbD 0 = a ∧ (byte (bit a + 2 * bit b)).getLsbD 1 = b ∧
      (byte (bit a + 2 * bit b)).toNat < 4 := by
  revert a b; decide

/-- 10.5: the flags byte of a group in the status record. -/
theorem groupFlags_bits (a b : Bool) :
    (byte (bit a + 4 * bit b)).getLsbD 0 = a ∧ (byte (bit a + 4 * bit b)).getLsbD 2 = b ∧
      (byte (bit a + 4 * bit b)).getLsbD 1 = false ∧ (byte (bit a + 4 * bit b)).toNat < 8 := by
  revert a b; decide

/-- 10.5: byte 0 of a region entry. -/
theorem regionFlags_bits (x : Region) :
    (byte (regionFlags x)).getLsbD 7 = x.valid ∧
      (match x.policy with
        | .hold g d => ((byte (regionFlags x)).extractLsb' 4 3).toNat = g.val ∧ (byte (regionFlags x)).getLsbD 3 = d ∧
            (byte (regionFlags x)).extractLsb' 0 3 = 0
        | .pass => (byte (regionFlags x)).extractLsb' 0 7 = 1
        | .block => (byte (regionFlags x)).extractLsb' 0 7 = 2) := by
  obtain ⟨valid, base, sizeLog, policy, readClass⟩ := x
  cases policy
  case hold g d =>
    have hbits : ∀ (v d : Bool) (g : GroupIx), (byte (bit v * 128 + 0 + (g.val * 16 + bit d * 8))).getLsbD 7 = v ∧
        ((byte (bit v * 128 + 0 + (g.val * 16 + bit d * 8))).extractLsb' 4 3).toNat = g.val ∧
        (byte (bit v * 128 + 0 + (g.val * 16 + bit d * 8))).getLsbD 3 = d ∧
        (byte (bit v * 128 + 0 + (g.val * 16 + bit d * 8))).extractLsb' 0 3 = 0 := by decide
    exact hbits valid d g
  case pass =>
    have hbits : ∀ v : Bool, (byte (bit v * 128 + 1 + 0)).getLsbD 7 = v ∧
        (byte (bit v * 128 + 1 + 0)).extractLsb' 0 7 = 1 := by decide
    exact hbits valid
  case block =>
    have hbits : ∀ v : Bool, (byte (bit v * 128 + 2 + 0)).getLsbD 7 = v ∧
        (byte (bit v * 128 + 2 + 0)).extractLsb' 0 7 = 2 := by decide
    exact hbits valid

end Byte

/-! ## Entry and fault records (R164, R181) -/

section Records

theorem faultBytes_length (k : FaultIx) (f : FaultRecord) (data : Line) : (faultBytes k f data).length = 86 := by
  simp [faultBytes, bytesBE_length, Config.lineBytes]

theorem entryBytes_length (x : Entry) : (entryBytes x).length = 98 := by
  simp [entryBytes, bytesBE_length, padded, Config.lineBytes]

/-- R198: waiters beyond those listed read 0. -/
theorem padded_eq {n : Nat} {bs : List Byte} (h : bs.length ≤ n) :
    padded n bs = bs ++ List.replicate (n - bs.length) 0 := by
  apply List.ext_getElem
  · simp [padded]
    omega
  · intro i hi _
    simp only [padded, List.length_map, List.length_range] at hi
    rw [List.getElem_append]
    split
    · next hlt => simp [padded, List.getD_eq_getElem?_getD, hlt]
    · next hge => simp [padded, List.getD_eq_getElem?_getD, List.getElem?_eq_none (Nat.not_lt.1 hge)]

theorem faultBytes_fields (k : FaultIx) (f : FaultRecord) (data : Line) :
    natBE (((faultBytes k f data).drop 0).take 1) = k.val ∧
        natBE (((faultBytes k f data).drop 1).take 1) = f.entry.val ∧
      natBE (((faultBytes k f data).drop 2).take 1) = f.group.val ∧
      natBE (((faultBytes k f data).drop 3).take 1) = failCauseCode f.cause ∧
      (f.attemptsMade < 256 → natBE (((faultBytes k f data).drop 4).take 1) = f.attemptsMade) ∧
      natBE (((faultBytes k f data).drop 5).take 5) = f.line.toNat ∧
      natBE (((faultBytes k f data).drop 10).take 8) = f.mask.toNat ∧
      natBE (((faultBytes k f data).drop 18).take 4) = f.time.toNat ∧ (faultBytes k f data).drop 22 = data.toList := by
  have hk : k.val < 6 := k.isLt
  have he : f.entry.val < 48 := f.entry.isLt
  have hg : f.group.val < 4 := f.group.isLt
  have hc : failCauseCode f.cause < 256 := by rcases f.cause <;> decide
  exact ⟨natBE_byte (by omega), natBE_byte (by omega), natBE_byte (by omega), natBE_byte hc, natBE_byte,
    natBE_bytesBE_toNat 5 (by decide) f.line, natBE_bytesBE_toNat 8 (by decide) f.mask,
    natBE_bytesBE_toNat 4 (by decide) f.time, rfl⟩

theorem entryBytes_fields (x : Entry) :
    natBE (((entryBytes x).drop 0).take 1) = entryStateCode x.state ∧
      (entryBytes x).getD 1 0 = byte (bit x.expedite + 2 * bit x.faultSlot.isSome) ∧
      natBE (((entryBytes x).drop 2).take 1) = x.group.val ∧
      (x.attempts < 256 → natBE (((entryBytes x).drop 3).take 1) = x.attempts) ∧
      natBE (((entryBytes x).drop 4).take 1) = (x.faultSlot.map Fin.val).getD 0 ∧
      (x.waiters.length ≤ 3 → natBE (((entryBytes x).drop 5).take 1) = x.waiters.length ∧
        ((entryBytes x).drop 6).take 3 = x.waiters.map waiterByte ++ List.replicate (3 - x.waiters.length) 0) ∧
      natBE (((entryBytes x).drop 9).take 5) = x.line.toNat ∧ natBE (((entryBytes x).drop 14).take 8) = x.mask.toNat ∧
      natBE (((entryBytes x).drop 22).take 6) = x.seq.toNat ∧
      natBE (((entryBytes x).drop 28).take 4) = x.allocTime.toNat ∧
      natBE (((entryBytes x).drop 32).take 2) = x.merges.toNat ∧
      (entryBytes x).drop 34 = (if x.state = .faulted then x.data else Line.zero).toList := by
  have hs : entryStateCode x.state < 256 := by rcases x.state <;> decide
  have hg : x.group.val < 4 := x.group.isLt
  have hslot : (x.faultSlot.map Fin.val).getD 0 < 256 := by
    rcases x.faultSlot with _ | k
    · decide
    · exact Nat.lt_trans k.isLt (by decide)
  have hwaiters (h : x.waiters.length ≤ 3) : ((entryBytes x).drop 6).take 3 =
      x.waiters.map waiterByte ++ List.replicate (3 - x.waiters.length) 0 := by
    have hpad : ((entryBytes x).drop 6).take 3 = padded 3 (x.waiters.map waiterByte) := rfl
    rw [hpad, padded_eq (by rwa [List.length_map]), List.length_map]
  exact ⟨natBE_byte hs, rfl, natBE_byte (by omega), natBE_byte, natBE_byte hslot,
    fun h => ⟨natBE_byte (by omega), hwaiters h⟩, natBE_bytesBE_toNat 5 (by decide) x.line,
    natBE_bytesBE_toNat 8 (by decide) x.mask, natBE_bytesBE_toNat 6 (by decide) x.seq,
    natBE_bytesBE_toNat 4 (by decide) x.allocTime, natBE_bytesBE_toNat 2 (by decide) x.merges, rfl⟩

end Records

/-! ## The status record (R180) -/

section Status

variable {s : State}

theorem statusBytes_length (s : State) : (statusBytes s).length = 75 := by
  simp [statusBytes, groupBytes, faultOrderBytes, bytesBE_length, Config.numGroups, Config.numFaults]

/-- R198: the slots in addition order, 0xFF beyond the number of records. -/
theorem faultOrderBytes_eq (h : s.faultOrder.length ≤ 6) :
    faultOrderBytes s =
      (s.faultOrder.map fun k => BitVec.ofNat 8 k.val) ++ List.replicate (6 - s.faultOrder.length) 0xFF := by
  apply List.ext_getElem
  · simp [faultOrderBytes, Config.numFaults]
    omega
  · intro i hi _
    simp only [faultOrderBytes, List.length_map, List.length_range] at hi
    rw [List.getElem_append]
    split
    · next hlt =>
      rw [List.length_map] at hlt
      simp [faultOrderBytes, hlt, byte]
    · next hge =>
      rw [List.length_map] at hge
      simp [faultOrderBytes, List.getElem?_eq_none (Nat.not_lt.1 hge)]

theorem groupBytes_length (s : State) (g : GroupIx) : (groupBytes s g).length = 10 := by
  simp [groupBytes, bytesBE_length]

/-- 10.5: bytes 0 to 4 of the status record. -/
def statusHead (s : State) : List Byte :=
  [byte (powerCode s.power.state), byte (shownAttempt s)] ++ bytesBE 2 s.power.current.toNat ++
  [byte (bit s.opp + 2 * bit s.pressure + 4 * bit (halted s))]

/-- 10.5: bytes 5 to 44 of the status record. -/
def statusGroups (s : State) : List Byte := (List.finRange Config.numGroups).flatMap (groupBytes s)

/-- 10.5: the status record from byte 45 on. -/
def statusTail (s : State) : List Byte :=
  [byte s.counts.held, byte s.counts.releasing, byte s.counts.faulted] ++ bytesBE 6 s.seqCounter.toNat ++
  [byte (busySlots s), byte (quarantinedSlots s), byte s.reads.length, byte (deferredReads s).length,
    byte s.drains.length] ++
  bytesBE 4 (drainAge s) ++ [byte s.faultOrder.length] ++ faultOrderBytes s ++
  [byte (bit (halted s) + 2 * bit (unavailable s) + 4 * bit (tagsStuck s))] ++ bytesBE 4 s.timestamp.toNat

theorem statusBytes_parts (s : State) : statusBytes s = statusHead s ++ (statusGroups s ++ statusTail s) := by
  simp only [statusBytes, statusHead, statusGroups, statusTail, List.append_assoc]

theorem statusGroups_eq (s : State) :
    statusGroups s = groupBytes s 0 ++ (groupBytes s 1 ++ (groupBytes s 2 ++ (groupBytes s 3 ++ []))) := rfl

theorem statusHead_length (s : State) : (statusHead s).length = 5 := rfl

theorem statusGroups_length (s : State) : (statusGroups s).length = 40 := by
  simp [statusGroups_eq, groupBytes_length]

/-- 10.5: the status record from a group's first byte on. -/
theorem statusBytes_group (s : State) (g : GroupIx) :
    ∃ rest, (statusBytes s).drop (5 + 10 * g.val) = groupBytes s g ++ rest := by
  rw [statusBytes_parts, ← statusHead_length s, List.drop_length_add_append, statusGroups_eq]
  simp only [List.append_assoc]
  match g with
  | 0 => exact ⟨_, rfl⟩
  | 1 => exact ⟨_, List.drop_left' (groupBytes_length s 0)⟩
  | 2 =>
    have hlen : (groupBytes s 0 ++ groupBytes s 1).length = 10 * 2 := by simp [groupBytes_length]
    exact ⟨_, by rw [← List.append_assoc]; exact List.drop_left' hlen⟩
  | 3 =>
    have hlen : (groupBytes s 0 ++ groupBytes s 1 ++ groupBytes s 2).length = 10 * 3 := by simp [groupBytes_length]
    exact ⟨_, by rw [← List.append_assoc, ← List.append_assoc]; exact List.drop_left' hlen⟩

/-- 10.5: the status record from byte 45 on. -/
theorem statusBytes_tail (s : State) (n : Nat) : (statusBytes s).drop (45 + n) = (statusTail s).drop n := by
  have hlen : (statusHead s ++ statusGroups s).length = 45 := by
    rw [List.length_append, statusHead_length, statusGroups_length]
  rw [statusBytes_parts, ← List.append_assoc, ← hlen, List.drop_length_add_append]

/-- R198: what the attempt, the drain age and a group's mark and faults show. -/
theorem shownAttempt_eq (h : PowerSound s) : shownAttempt s = s.power.attempt := by
  unfold shownAttempt
  split
  · rfl
  · next hne =>
    refine (h.settled ?_).symm
    rcases hp : s.power.state
    · exact .inl rfl
    · exact .inr (.inl rfl)
    · exact .inr (.inr rfl)
    · exact absurd (.inl hp) hne
    · exact absurd (.inr hp) hne

theorem attempt_lt (h : PowerSound s) : s.power.attempt < 256 := by
  rcases hp : s.power.state
  · rw [h.settled (.inl hp)]
    decide
  · rw [h.settled (.inr (.inl hp))]
    decide
  · rw [h.settled (.inr (.inr hp))]
    decide
  · exact Nat.lt_of_le_of_lt (h.waking hp).2 (by decide)
  · rw [h.unavailable hp]
    decide

theorem drainAge_lt (s : State) : drainAge s < 256 ^ 4 := by
  unfold drainAge
  split
  · exact (_ : BitVec 32).isLt
  · decide

theorem shownMark_lt (ep : Episode) : shownMark ep < 256 ^ 6 := by
  cases ep with
  | mark m => exact m.isLt
  | noMark | absent => decide

theorem shownMark_eq (ep : Episode) : shownMark ep = match ep with | .mark m => m.toNat | _ => 0 := by
  cases ep <;> rfl

theorem groupFaults_eq (s : State) (g : GroupIx) :
    groupFaults s g = s.faults.countP fun x => x.any fun f => f.group == g := by
  unfold groupFaults
  refine congrArg (fun p => s.faults.countP p) (funext fun x => ?_)
  cases x <;> rfl

theorem groupFaults_lt (s : State) (g : GroupIx) : groupFaults s g < 256 :=
  Nat.lt_of_le_of_lt Vector.countP_le_size (by decide)

theorem faultOrder_length_le (h : FaultsSound s) : s.faultOrder.length ≤ 6 := by
  have hcard := h.once.length_le_card
  rwa [Fintype.card_fin] at hcard

theorem statusHead_fields (s : State) (rest : List Byte) :
    natBE (((statusHead s ++ rest).drop 0).take 1) = powerCode s.power.state ∧
      (PowerSound s → natBE (((statusHead s ++ rest).drop 1).take 1) = s.power.attempt) ∧
      natBE (((statusHead s ++ rest).drop 2).take 2) = s.power.current.toNat ∧
      (statusHead s ++ rest).getD 4 0 = byte (bit s.opp + 2 * bit s.pressure + 4 * bit (halted s)) := by
  have hp : powerCode s.power.state < 256 := by rcases s.power.state <;> decide
  refine ⟨natBE_byte hp, fun h => ?_, natBE_bytesBE_toNat 2 (by decide) s.power.current, rfl⟩
  have hattempt : ((statusHead s ++ rest).drop 1).take 1 = [byte s.power.attempt] :=
    congrArg (fun n => [byte n]) (shownAttempt_eq h)
  rw [hattempt, natBE_byte (attempt_lt h)]

theorem groupBytes_fields (s : State) (g : GroupIx) (rest : List Byte) :
    natBE (((groupBytes s g ++ rest).drop 0).take 1) = groupStateCode s.groups[g].state ∧
      (groupBytes s g ++ rest).getD 1 0 =
        byte (bit (s.groups[g].episode != .absent) + 4 * bit s.groups[g].pendingRelease) ∧
      natBE (((groupBytes s g ++ rest).drop 2).take 6) = shownMark s.groups[g].episode ∧
      (StoreSound s → natBE (((groupBytes s g ++ rest).drop 8).take 1) = s.counts.groupHeld[g]) ∧
      natBE (((groupBytes s g ++ rest).drop 9).take 1) = groupFaults s g := by
  have hs : groupStateCode s.groups[g].state < 256 := by rcases s.groups[g].state <;> decide
  refine ⟨natBE_byte hs, rfl, natBE_bytesBE (shownMark_lt _), fun h => natBE_byte ?_, natBE_byte (groupFaults_lt s g)⟩
  rw [h.groups g]
  exact Nat.lt_of_le_of_lt Vector.countP_le_size (by decide)

theorem statusTail_fields (s : State) :
    (StoreSound s → natBE (((statusTail s).drop 0).take 1) = s.counts.held ∧
        natBE (((statusTail s).drop 1).take 1) = s.counts.releasing ∧
        natBE (((statusTail s).drop 2).take 1) = s.counts.faulted) ∧
      natBE (((statusTail s).drop 3).take 6) = s.seqCounter.toNat ∧
      natBE (((statusTail s).drop 9).take 1) = busySlots s ∧
      natBE (((statusTail s).drop 10).take 1) = quarantinedSlots s ∧
      (Bounded s → natBE (((statusTail s).drop 11).take 1) = s.reads.length ∧
        natBE (((statusTail s).drop 12).take 1) = (deferredReads s).length ∧
        natBE (((statusTail s).drop 13).take 1) = s.drains.length) ∧
      natBE (((statusTail s).drop 14).take 4) = drainAge s ∧
      (FaultsSound s → natBE (((statusTail s).drop 18).take 1) = s.faultOrder.length ∧
        ((statusTail s).drop 19).take 6 = (s.faultOrder.map fun k => BitVec.ofNat 8 k.val) ++
          List.replicate (6 - s.faultOrder.length) 0xFF) ∧
      (statusTail s).getD 25 0 = byte (bit (halted s) + 2 * bit (unavailable s) + 4 * bit (tagsStuck s)) ∧
      natBE (((statusTail s).drop 26).take 4) = s.timestamp.toNat := by
  have hcount (p : Entry → Bool) : s.entries.countP p < 256 := Nat.lt_of_le_of_lt Vector.countP_le_size (by decide)
  have hslots (p : Slot → Bool) : s.slots.countP p < 256 := Nat.lt_of_le_of_lt Vector.countP_le_size (by decide)
  refine ⟨fun h => ⟨natBE_byte (h.held ▸ hcount _), natBE_byte (h.releasing ▸ hcount _),
      natBE_byte (h.faulted ▸ hcount _)⟩, natBE_bytesBE_toNat 6 (by decide) s.seqCounter, natBE_byte (hslots _),
    natBE_byte (hslots _), fun h => ?_, natBE_bytesBE (drainAge_lt s), fun h => ?_, rfl,
    natBE_bytesBE_toNat 4 (by decide) s.timestamp⟩
  · have hreads := h.reads
    have hdrains := h.drains
    have hdeferred : (deferredReads s).length ≤ s.reads.length := List.length_filter_le ..
    exact ⟨natBE_byte (by omega), natBE_byte (by omega), natBE_byte (by omega)⟩
  · have hle := faultOrder_length_le h
    have hslice : ((statusTail s).drop 19).take 6 = faultOrderBytes s := rfl
    exact ⟨natBE_byte (by omega), hslice.trans (faultOrderBytes_eq hle)⟩

theorem getD_drop (l : List Byte) (m n : Nat) : (l.drop m).getD n 0 = l.getD (m + n) 0 := by
  simp only [List.getD_eq_getElem?_getD, List.getElem?_drop]

theorem statusBytes_head_fields (s : State) :
    natBE (((statusBytes s).drop 0).take 1) = powerCode s.power.state ∧
      (PowerSound s → natBE (((statusBytes s).drop 1).take 1) = s.power.attempt) ∧
      natBE (((statusBytes s).drop 2).take 2) = s.power.current.toNat ∧
      (statusBytes s).getD 4 0 = byte (bit s.opp + 2 * bit s.pressure + 4 * bit (halted s)) := by
  rw [statusBytes_parts]
  exact statusHead_fields s _

theorem statusBytes_group_fields (s : State) (g : GroupIx) :
    natBE (((statusBytes s).drop (5 + 10 * g.val)).take 1) = groupStateCode s.groups[g].state ∧
      ((statusBytes s).getD (5 + 10 * g.val + 1) 0).getLsbD 0 = (s.groups[g].episode != .absent) ∧
      ((statusBytes s).getD (5 + 10 * g.val + 1) 0).getLsbD 2 = s.groups[g].pendingRelease ∧
      ((statusBytes s).getD (5 + 10 * g.val + 1) 0).getLsbD 1 = false ∧
      ((statusBytes s).getD (5 + 10 * g.val + 1) 0).toNat < 8 ∧
      natBE (((statusBytes s).drop (5 + 10 * g.val + 2)).take 6) = shownMark s.groups[g].episode ∧
      (StoreSound s → natBE (((statusBytes s).drop (5 + 10 * g.val + 8)).take 1) = s.counts.groupHeld[g]) ∧
      natBE (((statusBytes s).drop (5 + 10 * g.val + 9)).take 1) = groupFaults s g := by
  obtain ⟨rest, hdrop⟩ := statusBytes_group s g
  have hbits := groupFlags_bits (s.groups[g].episode != .absent) s.groups[g].pendingRelease
  obtain ⟨hstate, hflags, hfields⟩ := groupBytes_fields s g rest
  rw [← hflags, ← hdrop, getD_drop] at hbits
  rw [← hdrop] at hstate hfields
  simp only [List.drop_drop] at hstate hfields
  obtain ⟨hepisode, hpending, hclear, hless⟩ := hbits
  exact ⟨hstate, hepisode, hpending, hclear, hless, hfields⟩

theorem statusBytes_flags (s : State) :
    (statusBytes s).getD 70 0 = byte (bit (halted s) + 2 * bit (unavailable s) + 4 * bit (tagsStuck s)) := by
  have htail : (statusBytes s).drop 45 = statusTail s := statusBytes_tail s 0
  have hflags : (statusTail s).getD 25 0 =
      byte (bit (halted s) + 2 * bit (unavailable s) + 4 * bit (tagsStuck s)) := rfl
  rw [← hflags, ← htail, getD_drop]

end Status

end Sys2Proof.Proofs

namespace Sys2Proof.Settled

open Sys2Proof Sys2Proof.Machine Sys2Proof.Proofs

/-- Settles O53: each reply's length and fields by the layout of its record. -/
theorem readBack : Obligations.ReadBack := by
  intro s ht zeros field
  refine ⟨fun n hn => ?_, fun r => ?_, ?_, fun n hn => ?_, fun n k hn => ?_, fun n hn => ?_, fun n k hn => ?_,
    fun n hn => ?_, fun n e hn => ?_, ?_⟩
  · refine answers_denied (n := .readReg) ht rfl rfl ?_ nofun
    rw [judgeReadReg, registerOfNumber_eq_none_iff.2 hn]
  · refine ⟨bytesBE 4 (registerValue s r), answers_okData (n := .readReg) ht rfl rfl ?_,
      Laws.FrameOfLength.bytesBE_length .., fun h => natBE_bytesBE h, ?_⟩
    · rw [judgeReadReg, registerOfNumber_registerNumber]
    · cases r <;> rfl
  · refine answers_okData (n := .readReg) ht rfl rfl ?_
    have hid : registerOfNumber 0 = some .id := registerOfNumber_registerNumber .id
    have hbytes : bytesBE 4 (registerValue s .id) = [0x1B, 0x70, 0x30, 0x01] := by
      show bytesBE 4 idValue = _
      decide
    rw [judgeReadReg, hid, ← hbytes]
  · refine answers_denied (n := .regionRead) ht rfl rfl ?_ nofun
    rw [judgeRegionRead, regionArg_none hn]
  · have hans : Answers (.regionRead n) s .ok (regionBytes s.regions[k]) s :=
      answers_okData (n := .regionRead) ht rfl rfl (by rw [judgeRegionRead, regionArg_eq hn])
    obtain ⟨hvalid, hpolicy⟩ := regionFlags_bits s.regions[k]
    refine ⟨byte (regionFlags s.regions[k]), _, hans, rfl, hvalid, hpolicy, ?_, fun h => natBE_byte ?_,
      natBE_bytesBE_toNat 5 (by decide) _⟩
    · rcases s.regions[k].readClass <;> rfl
    · obtain ⟨hlog, hoff⟩ := h.regions k
      rcases hv : s.regions[k].valid with _ | _
      · rw [hoff hv]
        decide
      · exact Nat.lt_of_le_of_lt (hlog hv).2.1 (by decide)
  · refine answers_denied (n := .faultRead) ht rfl rfl ?_ nofun
    rw [judgeFaultRead, faultArg_none hn]
  · refine ⟨fun hk => answers_denied (n := .faultRead) ht rfl rfl ?_ nofun, fun f hk => ?_⟩
    · rw [judgeFaultRead, faultArg_eq hn]
      dsimp only
      rw [hk]
    · refine ⟨_, answers_okData (n := .faultRead) ht rfl rfl ?_, faultBytes_length k f _, faultBytes_fields k f _⟩
      rw [judgeFaultRead, faultArg_eq hn]
      dsimp only
      rw [hk]
  · refine answers_denied (n := .entryPeek) ht rfl rfl ?_ nofun
    rw [judgeEntryPeek, entryArg_none hn]
  · obtain ⟨hstate, hflags, hgroup, hattempts, hslot, hwaiters, hline, hmask, hseq, htime, hmerges, hdata⟩ :=
      entryBytes_fields s.entries[e]
    obtain ⟨hexpedite, hfault, hsmall⟩ := entryFlags_bits s.entries[e].expedite s.entries[e].faultSlot.isSome
    rw [← hflags] at hexpedite hfault hsmall
    refine ⟨_, answers_okData (n := .entryPeek) ht rfl rfl (by rw [judgeEntryPeek, entryArg_eq hn]),
      entryBytes_length _, hstate, hexpedite, hfault, hsmall, hgroup, hattempts, hslot.trans ?_,
      fun h => hwaiters (h.waiters e), hline, hmask, hseq, htime, hmerges, hdata.trans ?_⟩
    · rcases s.entries[e].faultSlot with _ | k <;> rfl
    · split <;> rfl
  · refine ⟨_, answers_okData (n := .status) ht rfl rfl rfl, statusBytes_length s, ?_⟩
    obtain ⟨hpower, hattempt, hcurrent, hflags⟩ := statusBytes_head_fields s
    obtain ⟨hopp, hpressure, hhalted, hsmall⟩ := flags_bits s.opp s.pressure (halted s)
    rw [← hflags] at hopp hpressure hhalted hsmall
    have hlast := statusBytes_flags s
    obtain ⟨hlast0, hlast1, hlast2, hlastSmall⟩ := flags_bits (halted s) (unavailable s) (tagsStuck s)
    rw [← hlast] at hlast0 hlast1 hlast2 hlastSmall
    obtain ⟨hcounts, hseq, hbusy, hquarantined, hlists, hage, hfaults, -, htime⟩ := statusTail_fields s
    simp only [← statusBytes_tail, Nat.reduceAdd] at hcounts hseq hbusy hquarantined hlists hage hfaults htime
    refine ⟨hpower, hattempt, hcurrent, hopp, hpressure, by rw [hhalted]; exact halted_iff s, hsmall, fun g => ?_,
      hcounts, hseq, hbusy, hquarantined, hlists, hage, hfaults, by rw [hlast0]; exact halted_iff s,
      by rw [hlast1]; exact beq_iff_eq, hlast2, hlastSmall, htime⟩
    obtain ⟨hstate, hepisode, hpending, hclear, hless, hmark, hheld, hfaulted⟩ := statusBytes_group_fields s g
    exact ⟨hstate, by rw [hepisode]; exact bne_iff_ne, hpending, hclear, hless, hmark.trans (shownMark_eq _), hheld,
      hfaulted.trans (groupFaults_eq s g)⟩

end Sys2Proof.Settled

/-! PROOFS. O52: the management link: how a command is answered, and a frame byte by byte (9.1, R175 to R177). -/

namespace Sys2Proof.Proofs

open Sys2Proof Sys2Proof.Machine Sys2Proof.Laws.FrameOfLength

/-! ## The length of a response (R177, 10.4) -/

section Length

variable {c : Instr} {b : Byte} {n : CommandName} {args : List Byte} {s : State}

/-- 10.4: an answer OK to command n has the number of data bytes that the table gives. -/
def FitsLength (n : CommandName) (a : Answer) : Prop := a.status = .ok → a.data.length = dataBytes n

theorem fits_of_no_data {a : Answer} (hn : dataBytes n = 0) (ha : a.data = []) : FitsLength n a := fun _ => by
  rw [ha, hn]
  rfl

theorem fits_denied {st : Status} (h : st ≠ .ok) : FitsLength n (denied st s) := fun hok => absurd hok h

theorem fits_okData {bs : List Byte} (h : bs.length = dataBytes n) : FitsLength n (okData bs s) := fun _ => h

theorem judgeReadReg_fits (b : Byte) (s : State) : FitsLength .readReg (judgeReadReg b s) := by
  unfold judgeReadReg
  split
  · exact fits_okData (bytesBE_length ..)
  · exact fits_denied nofun

theorem judgeWriteReg_data (b : Byte) (v : BitVec 32) (s : State) : (judgeWriteReg b v s).data = [] := by
  unfold judgeWriteReg judgeWrite
  repeat' split
  all_goals rfl

theorem judgeAck_data (v : BitVec 16) (s : State) : (judgeAck v s).data = [] := by
  unfold judgeAck
  split <;> rfl

theorem regionBytes_length (x : Region) : (regionBytes x).length = 8 := rfl

theorem judgeRegionRead_fits (b : Byte) (s : State) : FitsLength .regionRead (judgeRegionRead b s) := by
  unfold judgeRegionRead
  split
  · exact fits_okData (regionBytes_length _)
  · exact fits_denied nofun

theorem judgeRegionWrite_data (b : Byte) (x : BitVec 64) (s : State) : (judgeRegionWrite b x s).data = [] := by
  unfold judgeRegionWrite
  repeat' split
  all_goals rfl

theorem judgeGroupOpen_data (b : Byte) (s : State) : (judgeGroupOpen b s).data = [] := by
  unfold judgeGroupOpen
  repeat' split
  all_goals rfl

theorem judgeGroupClose_data (b : Byte) (s : State) : (judgeGroupClose b s).data = [] := by
  unfold judgeGroupClose
  repeat' split
  all_goals rfl

theorem judgeGroupReset_data (b : Byte) (s : State) : (judgeGroupReset b s).data = [] := by
  unfold judgeGroupReset
  repeat' split
  all_goals rfl

theorem judgeRelease_data (b : Byte) (s : State) : (judgeRelease b s).data = [] := by
  unfold judgeRelease
  split <;> rfl

theorem judgeWake_data (s : State) : (judgeWake s).data = [] := by
  unfold judgeWake
  split <;> rfl

theorem judgeCycle_data (s : State) : (judgeCycle s).data = [] := by
  unfold judgeCycle
  split <;> rfl

theorem judgeRecover_data (s : State) : (judgeRecover s).data = [] := by
  unfold judgeRecover
  split <;> rfl

theorem judgeFaultRead_fits (b : Byte) (s : State) : FitsLength .faultRead (judgeFaultRead b s) := by
  unfold judgeFaultRead
  split
  · exact fits_denied nofun
  · split
    · exact fits_okData (faultBytes_length ..)
    · exact fits_denied nofun

theorem judgeFaultRetry_data (b : Byte) (s : State) : (judgeFaultRetry b s).data = [] := by
  unfold judgeFaultRetry
  repeat' split
  all_goals rfl

theorem judgeFaultDiscard_data (b : Byte) (s : State) : (judgeFaultDiscard b s).data = [] := by
  unfold judgeFaultDiscard
  repeat' split
  all_goals rfl

theorem judgeEntryPeek_fits (b : Byte) (s : State) : FitsLength .entryPeek (judgeEntryPeek b s) := by
  unfold judgeEntryPeek
  split
  · exact fits_denied nofun
  · exact fits_okData (entryBytes_length _)

theorem judgeClear_data (s : State) : (judgeClear s).data = [] := by
  unfold judgeClear
  split <;> rfl

/-- R176, R177: every command of 10.4 is the management of a judgement whose answer has its length. -/
theorem exec_framed (hwf : c.wf = true) (h : frameOf c = some (commandByte n, args)) (s : State) :
    ∃ judge : State → Answer, exec c s = .next (manage n args judge s) ∧ FitsLength n (judge s) := by
  have hcmd {m : CommandName} {l : List Byte} (hf : frameOf c = some (commandByte m, l)) (judge : State → Answer)
      (hexec : exec c s = .next (manage m l judge s)) (hfit : FitsLength m (judge s)) :
      ∃ judge : State → Answer, exec c s = .next (manage n args judge s) ∧ FitsLength n (judge s) := by
    obtain ⟨hbyte, rfl⟩ := Prod.mk.inj (Option.some.inj (hf.symm.trans h))
    obtain rfl : m = n := Option.some.inj (by rw [← commandOfByte_commandByte m, hbyte, commandOfByte_commandByte])
    exact ⟨judge, hexec, hfit⟩
  have hwrite {m : Byte} {v : BitVec 32} (hf : frameOf c = some (commandByte .writeReg, writeArgs m v)) :=
    hcmd hf (judgeWriteReg m v) (exec_writeFrame hf) (fits_of_no_data rfl (judgeWriteReg_data m v s))
  cases c
  case unknownCommand x =>
    have hnone : commandOfByte x = none := Option.isNone_iff_eq_none.1 hwf
    obtain ⟨rfl, -⟩ := Prod.mk.inj (Option.some.inj h)
    rw [commandOfByte_commandByte] at hnone
    cases hnone
  case writeReg | tickDiv | fullPolicy | deferLimit | deferCount | creditLimit | respLimit | highMark | lowMark |
      oppMark | sleepDelay | windowPeriod | attnEnable | ageLimit | relMode | relValue | lineLimit | companions =>
    exact hwrite rfl
  case readReg b => exact hcmd rfl _ rfl (judgeReadReg_fits b s)
  case take => exact hcmd rfl judgeTake rfl (fun _ => bytesBE_length ..)
  case ack v => exact hcmd rfl _ rfl (fits_of_no_data rfl (judgeAck_data v s))
  case regionRead b => exact hcmd rfl _ rfl (judgeRegionRead_fits b s)
  case regionWrite b x => exact hcmd rfl _ rfl (fits_of_no_data rfl (judgeRegionWrite_data b x s))
  case groupOpen b => exact hcmd rfl _ rfl (fits_of_no_data rfl (judgeGroupOpen_data b s))
  case groupClose b => exact hcmd rfl _ rfl (fits_of_no_data rfl (judgeGroupClose_data b s))
  case groupReset b => exact hcmd rfl _ rfl (fits_of_no_data rfl (judgeGroupReset_data b s))
  case release b => exact hcmd rfl _ rfl (fits_of_no_data rfl (judgeRelease_data b s))
  case wake => exact hcmd rfl judgeWake rfl (fits_of_no_data rfl (judgeWake_data s))
  case cycle => exact hcmd rfl judgeCycle rfl (fits_of_no_data rfl (judgeCycle_data s))
  case recover => exact hcmd rfl judgeRecover rfl (fits_of_no_data rfl (judgeRecover_data s))
  case faultRead b => exact hcmd rfl _ rfl (judgeFaultRead_fits b s)
  case faultRetry b => exact hcmd rfl _ rfl (fits_of_no_data rfl (judgeFaultRetry_data b s))
  case faultDiscard b => exact hcmd rfl _ rfl (fits_of_no_data rfl (judgeFaultDiscard_data b s))
  case entryPeek b => exact hcmd rfl _ rfl (judgeEntryPeek_fits b s)
  case status => exact hcmd rfl judgeStatus rfl (fits_okData (statusBytes_length s))
  case clearCounters => exact hcmd rfl judgeClearCounters rfl (fits_of_no_data rfl rfl)
  case clear => exact hcmd rfl judgeClear rfl (fits_of_no_data rfl (judgeClear_data s))
  all_goals cases h

/-- R177: a command is answered with its number of data bytes; one not answered OK shifts zeros and changes nothing. -/
theorem answers_framed (hwf : c.wf = true) (h : frameOf c = some (commandByte n, args)) (ht : takesCommand s = true) :
    ∃ (st : Status) (data : List Byte) (u : State), Answers c s st data u ∧ data.length = dataBytes n ∧
      (st ≠ .ok → data = List.replicate (dataBytes n) 0 ∧ u = s) := by
  obtain ⟨judge, hexec, hfit⟩ := exec_framed hwf h s
  refine ⟨_, _, _, answers_judged ht h hexec, ?_, fun hst => ⟨if_neg hst, if_neg hst⟩⟩
  unfold answerData
  split
  · next hok => exact hfit hok
  · exact List.length_replicate

/-- R175, 10.4: the frame of every command has as many argument bytes as its command byte calls for. -/
theorem frame_length (c : Instr) : Statement c := by
  cases c
  case unknownCommand b => exact Laws.FrameOfLength.unknownCommand b
  case writeReg | tickDiv | fullPolicy | deferLimit | deferCount | creditLimit | respLimit | highMark | lowMark |
      oppMark | sleepDelay | windowPeriod | attnEnable | ageLimit | relMode | relValue | lineLimit | companions =>
    exact of_frame rfl (writeArgs_length ..)
  case ack | regionWrite => exact of_frame rfl (by simp [bytesBE_length, argBytes])
  case readReg | take | regionRead | groupOpen | groupClose | groupReset | release | wake | cycle | recover | faultRead |
      faultRetry | faultDiscard | entryPeek | status | clearCounters | clear =>
    exact of_frame rfl rfl
  all_goals exact no_frame rfl

/-- R175: the number of argument bytes a command byte calls for; none for one that names no command. -/
def calledFor (b : Byte) : Nat := ((commandOfByte b).map argBytes).getD 0

theorem length_of_decodeFrame (h : decodeFrame b args = some c) : args.length = calledFor b := by
  obtain ⟨hwf, hframe⟩ := frameOf_of_decodeFrame h
  rcases hb : commandOfByte b with _ | m
  · delta decodeFrame at h
    rw [hb] at h
    rcases args with _ | ⟨x, l⟩
    · rw [calledFor, hb]
      rfl
    · cases h
  · rw [calledFor, hb]
    exact frame_length c b args m hwf hframe hb

end Length

/-! ## Byte by byte (R175, R176) -/

section Bytes

variable {s : State} {f : Frame} {b : Byte} {rest : List Byte}

/-- The part with the host's bytes and the frame record as given. -/
def linked (rest : List Byte) (f : Frame) (s : State) : State := { s with serialIn := rest, frame := some f }

theorem step_of_byte (hp : s.pending = []) (hin : s.serialIn = b :: rest) :
    step s = clockByte b { s with serialIn := rest } := by
  unfold step whileNoCommand
  rw [hp, hin]

/-- R175: a byte that no frame takes is ignored. -/
theorem clockByte_ignored (h : s.frame = none ∨ s.resetPin ≠ .released) : clockByte b s = .next s := by
  unfold clockByte
  rcases hf : s.frame with _ | f
  · rfl
  · exact if_neg fun hr => (h.resolve_left (by rw [hf]; exact nofun)) (running_iff.1 hr)

/-- R176: the effect point's byte carries the command out. -/
theorem clockByte_effect {c : Instr} (hf : s.frame = some f) (hr : s.resetPin = .released)
    (he : effectOfByte b f = some c) :
    clockByte b s = exec c (setFrame (some .started) s) := by
  unfold clockByte
  rw [hf]
  dsimp only
  rw [if_pos (running_of_released hr), he]

theorem clockByte_recorded (hf : s.frame = some f) (hr : s.resetPin = .released) (he : effectOfByte b f = none) :
    clockByte b s = .next (setFrame (some (frameAfterByte b f)) s) := by
  unfold clockByte
  rw [hf]
  dsimp only
  rw [if_pos (running_of_released hr), he]

theorem effectOfByte_command (h : f.phase = .command) : effectOfByte b f = decodeFrame b [] := by
  unfold effectOfByte
  rw [h]

theorem effectOfByte_argument {x : Byte} (h : f.phase = .argument) (hx : f.command = some x) :
    effectOfByte b f = decodeFrame x (f.args ++ [b]) := by
  unfold effectOfByte
  rw [h, hx]

theorem effectOfByte_past (h : f.phase = .turnaround ∨ f.phase = .response ∨ f.phase = .trailing) :
    effectOfByte b f = none := by
  unfold effectOfByte
  rcases h with h | h | h <;> rw [h]

/-- R175: outside RESPONSE zeros go out. -/
theorem dataOut_zero (h : f.phase ≠ .response) : dataOut f = 0 := by
  unfold dataOut
  split
  · next hr => exact absurd hr h
  all_goals rfl

theorem frameAfterByte_command (h : f.phase = .command) :
    frameAfterByte b f = { f with phase := .argument, command := some b, sent := f.sent ++ [0] } := by
  rw [frameAfterByte, dataOut_zero (by rw [h]; exact nofun), h]

theorem frameAfterByte_argument (h : f.phase = .argument) :
    frameAfterByte b f = { f with args := f.args ++ [b], sent := f.sent ++ [0] } := by
  rw [frameAfterByte, dataOut_zero (by rw [h]; exact nofun), h]

theorem frameAfterByte_turnaround (h : f.phase = .turnaround) :
    frameAfterByte b f = { f with phase := .response, sent := f.sent ++ [0] } := by
  rw [frameAfterByte, nextPhase, dataOut_zero (by rw [h]; exact nofun), h]

/-- R175: the response's next byte goes out, and TRAILING follows its last. -/
theorem frameAfterByte_response {x : Byte} {left : List Byte} (h : f.phase = .response)
    (hleft : f.response.drop (responseSent f) = x :: left) :
    frameAfterByte b f = { f with phase := if left = [] then .trailing else .response, sent := f.sent ++ [x] } := by
  have hout : dataOut f = x := by
    have hget : (f.response.drop (responseSent f)).getD 0 0 = x := by rw [hleft]; rfl
    rw [getD_drop] at hget
    rw [dataOut, h]
    exact hget
  have hlen : f.response.length - responseSent f = left.length + 1 := by
    rw [← List.length_drop, hleft, List.length_cons]
  have hlast : f.response.length ≤ responseSent f + 1 ↔ left = [] := by
    rw [← List.length_eq_zero_iff]
    omega
  rw [frameAfterByte, nextPhase, hout, h]
  dsimp only
  rw [if_congr hlast rfl rfl]

theorem frameAfterByte_trailing (h : f.phase = .trailing) : frameAfterByte b f = { f with sent := f.sent ++ [0] } := by
  rw [frameAfterByte, nextPhase, dataOut_zero (by rw [h]; exact nofun), h]

/-- A byte that brings no effect point steps the frame record alone. -/
theorem step_recorded {g : Frame} (hp : s.pending = []) (hr : s.resetPin = .released) (hf : s.frame = some f)
    (hin : s.serialIn = b :: rest) (he : effectOfByte b f = none) (hg : frameAfterByte b f = g) :
    step s = .next (linked rest g s) := by
  rw [step_of_byte hp hin, ← hg]
  exact clockByte_recorded (s := { s with serialIn := rest }) hf hr he

theorem step_effect {c : Instr} (hp : s.pending = []) (hr : s.resetPin = .released) (hf : s.frame = some f)
    (hin : s.serialIn = b :: rest) (he : effectOfByte b f = some c) : step s = exec c (linked rest .started s) := by
  rw [step_of_byte hp hin]
  exact clockByte_effect (s := { s with serialIn := rest }) hf hr he

theorem steps_succ {t : State} (h : step s = .next t) (n : Nat) : steps (n + 1) s = steps n t := by
  rw [steps, h]

theorem steps_one (s : State) : steps 1 s = step s := by
  rw [steps]
  rcases step s with u | r | r <;> rfl

/-- R176: the argument bytes that are left bring the command's effect point with the last of them. -/
theorem steps_arguments {c : Instr} {x : Byte} {todo : List Byte} (hp : s.pending = []) (hr : s.resetPin = .released)
    (hf : s.frame = some f) (hphase : f.phase = .argument) (hx : f.command = some x) (htodo : todo ≠ [])
    (hc : decodeFrame x (f.args ++ todo) = some c) (hin : s.serialIn = todo ++ rest) :
    steps todo.length s = exec c (linked rest .started s) := by
  induction todo generalizing s f with
  | nil => exact absurd rfl htodo
  | cons b todo ih =>
    by_cases hlast : todo = []
    · subst hlast
      rw [List.length_singleton, steps_one]
      exact step_effect hp hr hf hin ((effectOfByte_argument hphase hx).trans hc)
    · have hshort : decodeFrame x (f.args ++ [b]) = none := by
        rcases hd : decodeFrame x (f.args ++ [b]) with _ | d
        · rfl
        · have hlen := (length_of_decodeFrame hd).trans (length_of_decodeFrame hc).symm
          simp only [List.length_append, List.length_cons, List.length_nil] at hlen
          exact absurd (List.length_eq_zero_iff.1 (show todo.length = 0 by omega)) hlast
      have hstep : step s = .next (linked (todo ++ rest) { f with args := f.args ++ [b], sent := f.sent ++ [0] } s) :=
        step_recorded hp hr hf hin ((effectOfByte_argument hphase hx).trans hshort) (frameAfterByte_argument hphase)
      have hrest : decodeFrame x (f.args ++ [b] ++ todo) = some c := by rwa [List.append_assoc]
      rw [List.length_cons, steps_succ hstep]
      exact ih (f := { f with args := f.args ++ [b], sent := f.sent ++ [0] }) hp hr rfl hphase hx hlast hrest rfl

/-- R175, R176: a frame clocked byte by byte does what its command does as one step. -/
theorem steps_frame {c : Instr} {args : List Byte} (hp : s.pending = []) (hr : s.resetPin = .released)
    (hf : s.frame = some .started) (hc : decodeFrame b args = some c) (hin : s.serialIn = b :: args ++ rest) :
    steps (args.length + 1) s = exec c { s with serialIn := rest } := by
  have hsame : linked rest .started s = { s with serialIn := rest } := by
    rw [linked, ← hf]
  rw [← hsame]
  by_cases hargs : args = []
  · subst hargs
    rw [List.length_nil, Nat.zero_add, steps_one]
    exact step_effect hp hr hf hin hc
  · have hnone : decodeFrame b [] = none := by
      rcases hd : decodeFrame b [] with _ | d
      · rfl
      · have hlen := (length_of_decodeFrame hc).trans (length_of_decodeFrame hd).symm
        exact absurd (List.length_eq_zero_iff.1 hlen) hargs
    have hstep : step s = .next (linked (args ++ rest)
        { Frame.started with phase := .argument, command := some b, sent := Frame.started.sent ++ [0] } s) :=
      step_recorded hp hr hf hin hnone (frameAfterByte_command rfl)
    rw [steps_succ hstep]
    exact steps_arguments (x := b) (s := linked (args ++ rest) _ s) hp hr rfl rfl rfl hargs hc rfl

/-- R175: past the response zeros go out. -/
theorem steps_trailing {bs : List Byte} (hp : s.pending = []) (hr : s.resetPin = .released) (hf : s.frame = some f)
    (hphase : f.phase = .trailing) (hin : s.serialIn = bs ++ rest) :
    steps bs.length s = .next (linked rest { f with sent := f.sent ++ List.replicate bs.length 0 } s) := by
  induction bs generalizing s f with
  | nil =>
    have hsame : s = linked rest f s := by
      rw [linked, ← hf, show rest = s.serialIn from hin.symm]
    rw [List.length_nil, List.replicate_zero, List.append_nil]
    exact congrArg Host.Outcome.next hsame
  | cons b bs ih =>
    have hstep : step s = .next (linked (bs ++ rest) { f with sent := f.sent ++ [0] } s) :=
      step_recorded hp hr hf hin (effectOfByte_past (.inr (.inr hphase))) (frameAfterByte_trailing hphase)
    have hsent : f.sent ++ List.replicate (bs.length + 1) 0 = f.sent ++ [0] ++ List.replicate bs.length 0 := by
      rw [List.replicate_succ, List.append_assoc, List.singleton_append]
    rw [List.length_cons, steps_succ hstep, hsent]
    exact ih (f := { f with sent := f.sent ++ [0] }) hp hr rfl hphase rfl

/-- R175: the response that is left goes out, and zeros after it. -/
theorem steps_response {bs todo : List Byte} {n : Nat} (hp : s.pending = []) (hr : s.resetPin = .released)
    (hf : s.frame = some f) (hphase : f.phase = .response) (htodo : todo ≠ [])
    (hsent : f.args.length + 2 ≤ f.sent.length) (hleft : f.response.drop (responseSent f) = todo)
    (hin : s.serialIn = bs ++ rest) (hbs : bs.length = todo.length + n) :
    steps bs.length s =
      .next (linked rest { f with phase := .trailing, sent := f.sent ++ todo ++ List.replicate n 0 } s) := by
  induction todo generalizing s f bs with
  | nil => exact absurd rfl htodo
  | cons x todo ih =>
    rcases bs with _ | ⟨b, bs⟩
    · simp only [List.length_cons, List.length_nil] at hbs
      omega
    have hlen : bs.length = todo.length + n := by
      simp only [List.length_cons] at hbs
      omega
    have hstep : step s = .next (linked (bs ++ rest)
        { f with phase := if todo = [] then .trailing else .response, sent := f.sent ++ [x] } s) :=
      step_recorded hp hr hf hin (effectOfByte_past (.inr (.inl hphase))) (frameAfterByte_response hphase hleft)
    rw [List.length_cons, steps_succ hstep]
    by_cases hlast : todo = []
    · subst hlast
      obtain rfl : bs.length = n := hlen.trans (Nat.zero_add n)
      exact steps_trailing (f := { f with phase := .trailing, sent := f.sent ++ [x] }) hp hr rfl rfl rfl
    · have hnext : f.response.drop (f.sent.length + 1 - (f.args.length + 2)) = todo := by
        have hcount : f.sent.length + 1 - (f.args.length + 2) = responseSent f + 1 := by
          unfold responseSent
          omega
        rw [hcount, ← List.drop_drop, hleft]
        rfl
      have hsentLen : (f.sent ++ [x]).length = f.sent.length + 1 := by rw [List.length_append, List.length_singleton]
      have hout : f.sent ++ x :: todo = f.sent ++ [x] ++ todo := by rw [List.append_assoc, List.singleton_append]
      rw [if_neg hlast, hout]
      refine ih (f := { f with phase := .response, sent := f.sent ++ [x] }) hp hr rfl rfl hlast ?_ ?_ rfl hlen
      · show f.args.length + 2 ≤ (f.sent ++ [x]).length
        omega
      · show f.response.drop ((f.sent ++ [x]).length - (f.args.length + 2)) = todo
        rw [hsentLen, hnext]

/-- R175: from the turnaround byte on, zero, the response and zeros go out. -/
theorem steps_turnaround {bs : List Byte} {n : Nat} (hp : s.pending = []) (hr : s.resetPin = .released)
    (hf : s.frame = some f) (hphase : f.phase = .turnaround) (hsent : f.sent.length = f.args.length + 1)
    (hresponse : f.response ≠ []) (hin : s.serialIn = bs ++ rest) (hbs : bs.length = 1 + f.response.length + n) :
    steps bs.length s =
      .next (linked rest
        { f with phase := .trailing, sent := f.sent ++ [0] ++ f.response ++ List.replicate n 0 } s) := by
  rcases bs with _ | ⟨b, bs⟩
  · simp only [List.length_nil] at hbs
    omega
  have hlen : bs.length = f.response.length + n := by
    simp only [List.length_cons] at hbs
    omega
  have hstep : step s = .next (linked (bs ++ rest) { f with phase := .response, sent := f.sent ++ [0] } s) :=
    step_recorded hp hr hf hin (effectOfByte_past (.inl hphase)) (frameAfterByte_turnaround hphase)
  have hsentLen : (f.sent ++ [0]).length = f.args.length + 2 := by
    rw [List.length_append, List.length_singleton, hsent]
  rw [List.length_cons, steps_succ hstep]
  refine steps_response (f := { f with phase := .response, sent := f.sent ++ [0] })
    hp hr rfl rfl hresponse ?_ ?_ rfl hlen
  · exact Nat.le_of_eq hsentLen.symm
  · show f.response.drop ((f.sent ++ [0]).length - (f.args.length + 2)) = f.response
    rw [hsentLen, Nat.sub_self, List.drop_zero]

end Bytes

end Sys2Proof.Proofs

namespace Sys2Proof.Settled

open Sys2Proof Sys2Proof.Machine Sys2Proof.Proofs

/-- Settles O52: the answers by each command's judgement, the bytes by the phase of the frame, and whole frames by
induction on the bytes left. -/
theorem framesAndResponses : Obligations.FramesAndResponses := by
  refine ⟨fun s => ⟨fun h => ?_, fun h => ?_, rfl, ?_, fun ht => ⟨fun b hb => ?_, fun c n args hwf hframe => ?_⟩,
      fun ht => ?_⟩, fun s b rest hp hin => ⟨fun h => ?_, fun f hf hr => ⟨fun h => ⟨fun hd => ?_, fun c hd => ?_⟩,
      fun x h hx => ⟨fun hd => ?_, fun c hd => ?_⟩, fun h => ?_, fun x left h hleft => ?_, fun h => ?_⟩⟩,
    fun s c b args rest hp hr hf hwf hframe hin => ?_, fun s f bs rest n hp hr hf hphase hsent hresponse hin hbs => ?_⟩
  · show Host.Outcome.next (chipSelectFalls s) = _
    rw [chipSelectFalls, h, if_congr (running_iff (s := s)) rfl rfl]
    rfl
  · exact congrArg Host.Outcome.next (if_pos h)
  · unfold takesCommand
    rcases hf : s.frame with _ | f
    · simp
    · simp [running_iff]
  · refine ⟨b, [], rfl, ?_⟩
    show Host.Outcome.next (if commandOfByte b = none then atEffectPoint b [] 0 (denied .unknown) s else s) = _
    rw [if_pos (commandOfByte_eq_none_iff.2 hb), atEffectPoint, if_pos ht]
    rfl
  · exact answers_framed hwf hframe ht
  · obtain ⟨-, hreg, -, -, hregion, -, hfault, -, hentry, hstatus⟩ := readBack s ht
    refine ⟨fun r => ?_, fun b k hb => ?_, fun b k hb hk => ?_, fun b e hb => ?_, ?_⟩
    · obtain ⟨bs, h, -⟩ := hreg r
      exact ⟨bs, h⟩
    · obtain ⟨b0, bs, h, -⟩ := hregion b k hb
      exact ⟨b0 :: bs, h⟩
    · obtain ⟨f, hf⟩ := Option.ne_none_iff_exists'.1 hk
      obtain ⟨bs, h, -⟩ := (hfault b k hb).2 f hf
      exact ⟨bs, h⟩
    · obtain ⟨bs, h, -⟩ := hentry b e hb
      exact ⟨bs, h⟩
    · obtain ⟨bs, h, -⟩ := hstatus
      exact ⟨bs, h⟩
  · rw [step_of_byte hp hin]
    exact clockByte_ignored (s := { s with serialIn := rest }) h
  · exact step_recorded hp hr hf hin ((effectOfByte_command h).trans hd) (frameAfterByte_command h)
  · exact step_effect hp hr hf hin ((effectOfByte_command h).trans hd)
  · exact step_recorded hp hr hf hin ((effectOfByte_argument h hx).trans hd) (frameAfterByte_argument h)
  · exact step_effect hp hr hf hin ((effectOfByte_argument h hx).trans hd)
  · exact step_recorded hp hr hf hin (effectOfByte_past (.inl h)) (frameAfterByte_turnaround h)
  · exact step_recorded hp hr hf hin (effectOfByte_past (.inr (.inl h))) (frameAfterByte_response h hleft)
  · exact step_recorded hp hr hf hin (effectOfByte_past (.inr (.inr h))) (frameAfterByte_trailing h)
  · exact steps_frame hp hr hf (decodeFrame_of_frameOf hwf hframe) hin
  · exact steps_turnaround hp hr hf hphase hsent hresponse hin hbs

end Sys2Proof.Settled
